-- ==== Sys2Proof/Word.lean ====
section
/-! DEFINITION. The two widths of the machine: a byte and a 16-bit word (00_scope.md R9, R11). -/

namespace Sys2Proof

/-- An unsigned 8-bit value: a general register, `f`, a memory byte, an opcode, an immediate (R9, R11). -/
abbrev Byte := BitVec 8

/-- An unsigned 16-bit value: `sp`, `pc`, a register pair, an address (R9, R11). -/
abbrev Word := BitVec 16

end Sys2Proof
end

