-- ==== Sys2Proof/Config.lean ====
section
/-! DEFINITION. The parameters the spec leaves OPEN (00_scope.md R10), as plain data, and the one choice of what an
unlisted memory byte reads as. A `Config` is fixed for a machine: no step changes it. -/

namespace Sys2Proof

/-- `RO_WRITE_POLICY`: what a store to an address with `WRITABLE = false` does (00_scope.md R10, 20_memory.md R53). -/
inductive RoWritePolicy where
  /-- The store does nothing and the instruction continues. -/
  | ignore
  /-- The step ends with StorageWriteFault. -/
  | fault
  deriving DecidableEq, Repr

/-- The parameters `WRITABLE`, `RO_WRITE_POLICY` and `RL_CARRY_IN` of 00_scope.md R10 (`MEM0` is the memory a machine is
powered on with). DESIGN CHOICE, safe (log entry 2): `WRITABLE : Word16 -> Bool` is given as the list of the address
ranges in which it is false; every Bool function on the 65536 addresses has such a list. -/
structure Config where
  /-- The ranges (first address, last address) the bus may not write; everywhere else `WRITABLE` holds. -/
  readOnly : List (Word × Word)
  /-- `RO_WRITE_POLICY`. -/
  roWritePolicy : RoWritePolicy
  /-- `RL_CARRY_IN`: whether RLA and RRA take the prior carry in (41_alu.md R133, R134). -/
  rlCarryIn : Bool
  deriving DecidableEq, Repr

/-- The configuration of `State.reset`: every address writable and policy Ignore (DESIGN CHOICE, unsafe, log entry 2: the
spec leaves both OPEN and uses them in its test vectors), `RL_CARRY_IN = false` (the spec's default, R10 and D4). -/
def Config.default : Config :=
  { readOnly := [], roWritePolicy := .ignore, rlCarryIn := false }

/-- What an address that the memory list does not name reads as. DESIGN CHOICE (log entry 1): 0x00. Every total image
`MEM0` is a list of its non-zero bytes, so this loses no image. -/
def unlistedByte : Byte := 0x00

end Sys2Proof
end

