-- ==== Sys2Proof/Machine/State.lean ====
section
/-! DEFINITION. The machine's state as plain data (10_state.md R35), the reasons a run ends in a fault (60_exceptions.md
R300 to R306), and the power-on state (10_state.md R36). -/

namespace Sys2Proof.Machine

/-- The fault conditions of 60_exceptions.md R316. A step that raises one enters the run state Faulted(reason) as a next
state (R304); a step taken in that state answers the recorded reason (log entry 3). -/
inductive Fault where
  /-- Raised by `execNo_entry`, that is by a fetched opcode byte without a base-table entry; records the byte and the
  address it was fetched from (R301, R306). The spec's own fault: safe. -/
  | unimplementedOpcode (opcode : Byte) (pc : Word)
  /-- Raised by `store` when the address is not writable and the policy is Fault; records the address and the value
  refused (R302, R306). The spec's own fault: safe. -/
  | storageWrite (addr : Word) (value : Byte)
  /-- Raised by `construct` when Storage supplies no image; no state exists (R303). The spec's own fault: safe. -/
  | storageLoad
  deriving DecidableEq, Repr

/-- Why a step has no meaning. No step of this model refuses: every arm of `exec` has a meaning. -/
inductive Refusal where
  /-- Raised by an arm of `exec` whose instruction has no meaning yet; none is left. Safe: the machine stops. -/
  | notModelled (mnemonic : String)
  deriving DecidableEq, Repr

/-- The run state of the dispatcher (10_state.md R31, 60_exceptions.md R304). -/
inductive RunState where
  | running
  /-- Terminal, entered by HALT and STOP (48_system.md R261, R262). -/
  | halted
  /-- Terminal, entered by a step that raises a fault (60_exceptions.md R304). -/
  | faulted (reason : Fault)
  deriving DecidableEq, Repr

/-- Memory as (address, byte) pairs in one canonical form (`Memory.wf`): addresses below 65536, strictly rising, no byte
equal to `unlistedByte` (20_memory.md R50; log entry 4). -/
abbrev Memory := List Host.Cell

/-- The state of 10_state.md R35: the tuple `(A, B, C, D, E, H, L, F, sp, pc, ime, ei_pending, run, mem)`, and beside it
the configuration of R10, which no step changes (log entry 2). -/
structure State where
  a : Byte
  b : Byte
  c : Byte
  d : Byte
  e : Byte
  h : Byte
  l : Byte
  /-- The flags register: bit 7 Z, 6 N, 5 H, 4 C, bits 3:0 zero (R25, R27). -/
  f : Byte
  sp : Word
  pc : Word
  /-- The interrupt master enable (R33); no rule reads it. -/
  ime : Bool
  /-- EI has run and `ime` becomes 1 at the end of the next completed step (R34). -/
  eiPending : Bool
  run : RunState
  mem : Memory
  cfg : Config
  deriving DecidableEq, Repr

/-- What a meaning or a step answers. -/
abbrev Result := Host.Outcome State Fault Refusal

/-- The power-on state for a Storage that holds `image` and behaves as `cfg` says (10_state.md R36, 40_dispatch.md R111). -/
def State.powerOn (cfg : Config) (image : Memory) : State :=
  { a := 0x05, b := 0x09, c := 0x00, d := 0x00, e := 0x00, h := 0x00, l := 0x01, f := 0x00
    sp := 0xFFFE, pc := 0x0000, ime := false, eiPending := false
    run := .running, mem := image, cfg := cfg }

/-- The machine right after power-on, the only reset (70_reset_and_hazards.md R330). The spec leaves the image and the
configuration OPEN: here the image of zeros (log entry 1) and `Config.default` (log entry 2). -/
def State.reset : State := State.powerOn Config.default []

end Sys2Proof.Machine
end

