-- ==== Sys2Proof/Machine/Flags.lean ====
section
/-! DEFINITION. The flags register and the arithmetic-logic unit (10_state.md R25; 41_alu.md R120 to R141). Every ALU
function answers the pair (result, F'), and F' is always the whole byte (R120). -/

namespace Sys2Proof.Machine

/-- `Z<<7 | N<<6 | H<<5 | C<<4` with bits 3:0 zero (R25, R120). -/
def packF (z n h c : Bool) : Byte :=
  BitVec.ofBool z ++ BitVec.ofBool n ++ BitVec.ofBool h ++ BitVec.ofBool c ++ 0#4

/-- `F.Z`, bit 7 (R12, R25). -/
def flagZ (f : Byte) : Bool := f.getLsbD 7
/-- `F.N`, bit 6. -/
def flagN (f : Byte) : Bool := f.getLsbD 6
/-- `F.H`, bit 5. -/
def flagH (f : Byte) : Bool := f.getLsbD 5
/-- `F.C`, bit 4. -/
def flagC (f : Byte) : Bool := f.getLsbD 4

/-- The low nibble `v & 0x0F` as an exact integer. -/
def nib (v : Byte) : Nat := (v &&& 0x0F).toNat

/-- R121. -/
def aluAdd (x y : Byte) : Byte × Byte :=
  let t := x.toNat + y.toNat
  let res := BitVec.ofNat 8 t
  (res, packF (res == 0) false (decide (nib x + nib y > 0x0F)) (decide (t > 0xFF)))

/-- R122. -/
def aluAdc (x y : Byte) (cin : Bool) : Byte × Byte :=
  let t := x.toNat + y.toNat + cin.toNat
  let res := BitVec.ofNat 8 t
  (res, packF (res == 0) false (decide (nib x + nib y + cin.toNat > 0x0F)) (decide (t > 0xFF)))

/-- R123. -/
def aluSub (x y : Byte) : Byte × Byte :=
  let res := x - y
  (res, packF (res == 0) true (decide (nib x < nib y)) (decide (x.toNat < y.toNat)))

/-- R124. -/
def aluSbc (x y : Byte) (cin : Bool) : Byte × Byte :=
  let res := BitVec.ofInt 8 ((x.toNat : Int) - (y.toNat : Int) - (cin.toNat : Int))
  (res, packF (res == 0) true (decide (nib x < nib y + cin.toNat)) (decide (x.toNat < y.toNat + cin.toNat)))

/-- R125: the flags of `aluSub`, and the first value given back. -/
def aluCp (x y : Byte) : Byte × Byte := (x, (aluSub x y).2)

/-- R126. -/
def aluAnd (x y : Byte) : Byte × Byte :=
  let res := x &&& y
  (res, packF (res == 0) false true false)

/-- R127. -/
def aluOr (x y : Byte) : Byte × Byte :=
  let res := x ||| y
  (res, packF (res == 0) false false false)

/-- R128. -/
def aluXor (x y : Byte) : Byte × Byte :=
  let res := x ^^^ y
  (res, packF (res == 0) false false false)

/-- R129: C is the carry in, unchanged. -/
def aluInc (v : Byte) (cin : Bool) : Byte × Byte :=
  let res := v + 1
  (res, packF (res == 0) false (decide (nib v = 0x0F)) cin)

/-- R130: C is the carry in, unchanged. -/
def aluDec (v : Byte) (cin : Bool) : Byte × Byte :=
  let res := v - 1
  (res, packF (res == 0) true (decide (nib v = 0x00)) cin)

/-- `rotl8` of 00_scope.md R11. -/
def rotl8 (v : Byte) : Byte := (v <<< 1) ||| (v >>> 7)
/-- `rotr8` of 00_scope.md R11. -/
def rotr8 (v : Byte) : Byte := (v >>> 1) ||| (v <<< 7)
/-- `((v << 1) & 0xFF) | cin`: the left rotate through the carry (R133, R275). -/
def rotlc8 (v : Byte) (cin : Bool) : Byte := (v <<< 1) ||| (BitVec.ofBool cin).setWidth 8
/-- `(v >> 1) | (cin << 7)`: the right rotate through the carry (R134, R277). -/
def rotrc8 (v : Byte) (cin : Bool) : Byte := (v >>> 1) ||| ((BitVec.ofBool cin).setWidth 8 <<< 7)

/-- R131: RLCA's function; Z is 0 even when the result is 0. -/
def aluRlc (x : Byte) : Byte × Byte := (rotl8 x, packF false false false (x.getLsbD 7))
/-- R132: RRCA's function. -/
def aluRrc (x : Byte) : Byte × Byte := (rotr8 x, packF false false false (x.getLsbD 0))
/-- R133: RLA's function; `carryIn` is the parameter `RL_CARRY_IN`. -/
def aluRl (carryIn : Bool) (x : Byte) (cin : Bool) : Byte × Byte :=
  (if carryIn then rotlc8 x cin else rotl8 x, packF false false false (x.getLsbD 7))
/-- R134: RRA's function; `carryIn` is the parameter `RL_CARRY_IN`. -/
def aluRr (carryIn : Bool) (x : Byte) (cin : Bool) : Byte × Byte :=
  (if carryIn then rotrc8 x cin else rotr8 x, packF false false false (x.getLsbD 0))

/-- R135: both nibble tests read the input, and only after an addition. -/
def aluDaa (x : Byte) (nin hin cin : Bool) : Byte × Byte :=
  let hiFix := cin || (!nin && decide (x.toNat > 0x99))
  let loFix := hin || (!nin && decide (nib x > 0x09))
  let adj : Byte := (if hiFix then 0x60 else 0x00) ||| (if loFix then 0x06 else 0x00)
  let res := if nin then x - adj else x + adj
  (res, packF (res == 0) nin false hiFix)

/-- R136. -/
def aluCpl (x : Byte) (zin cin : Bool) : Byte × Byte := (~~~x, packF zin true true cin)

/-- R140: H is the carry out of bit 11, C the carry out of bit 15, Z the Z in. -/
def add16HL (hl rr : Word) (zin : Bool) : Word × Byte :=
  let t := hl.toNat + rr.toNat
  (BitVec.ofNat 16 t,
    packF zin false (decide ((hl &&& 0x0FFF).toNat + (rr &&& 0x0FFF).toNat > 0x0FFF)) (decide (t > 0xFFFF)))

/-- `sext_16` of 00_scope.md R11. -/
def sext16 (v : Byte) : Word := v.signExtend 16

/-- R141: the flags are those of the low byte plus `e` read as an unsigned byte. -/
def addSPe (sp : Word) (e : Byte) : Word × Byte :=
  (sp + sext16 e,
    packF false false (decide ((sp &&& 0x0F).toNat + nib e > 0x0F)) (decide ((sp &&& 0xFF).toNat + e.toNat > 0xFF)))

/-- The flags of a CB rotate or shift: Z from the result, N and H zero, C the bit shifted out (49_cb_prefix.md). -/
def shiftF (res : Byte) (c : Bool) : Byte := packF (res == 0) false false c

end Sys2Proof.Machine
end

