-- ==== Sys2Proof/Machine/Ops.lean ====
section
/-! DEFINITION. The named operations over memory, the bus and the registers: byte read and write of the canonical memory,
the bus store with its policy, the stack, fault entry, and the EI delay. -/

namespace Sys2Proof.Machine

/-- The byte at a key; an unlisted key reads as `unlistedByte`. -/
def Memory.lookup : Memory → Nat → Byte
  | [], _ => unlistedByte
  | (k, w) :: rest, n => if k = n then w else Memory.lookup rest n

/-- `MemRead(a, 1)`: the bus `fetch` (20_memory.md R51). It never fails and changes nothing. -/
def Memory.read (m : Memory) (addr : Word) : Byte := m.lookup addr.toNat

/-- `mem[n] <- v` keeping the canonical form: an entry is added, replaced, or dropped when `v` is `unlistedByte`. -/
def Memory.insert : Memory → Nat → Byte → Memory
  | [], n, v => if v = unlistedByte then [] else [(n, v)]
  | (k, w) :: rest, n, v =>
    if n < k then (if v = unlistedByte then (k, w) :: rest else (n, v) :: (k, w) :: rest)
    else if n = k then (if v = unlistedByte then rest else (n, v) :: rest)
    else (k, w) :: Memory.insert rest n v

/-- `mem[a] <- v` (20_memory.md R52). -/
def Memory.write (m : Memory) (addr : Word) (v : Byte) : Memory := m.insert addr.toNat v

/-- Keys strictly rising above `lo` (as far as `lo` bounds them), below 65536, no byte equal to `unlistedByte`. -/
def Memory.wfFrom : Nat → Memory → Bool
  | _, [] => true
  | lo, (k, w) :: rest =>
    decide (lo ≤ k) && decide (k < 65536) && decide (w ≠ unlistedByte) && Memory.wfFrom (k + 1) rest

/-- The canonical form of memory: equal memories are equal lists (log entry 4). -/
def Memory.wf (m : Memory) : Bool := Memory.wfFrom 0 m

/-- `WRITABLE(a)` (00_scope.md R10, 20_memory.md R54). -/
def writable (cfg : Config) (addr : Word) : Bool :=
  !(cfg.readOnly.any fun r => decide (r.1 ≤ addr) && decide (addr ≤ r.2))

/-- The high half of a pair, `v[15:8]` (00_scope.md R11). -/
def hiByte (v : Word) : Byte := v.extractLsb' 8 8
/-- The low half of a pair, `v[7:0]`. -/
def loByte (v : Word) : Byte := v.extractLsb' 0 8
/-- `hi:lo`, that is `(hi << 8) | lo` (00_scope.md R11). -/
def join (hi lo : Byte) : Word := hi ++ lo
/-- `zext_16` of 00_scope.md R11. -/
def zext16 (v : Byte) : Word := v.setWidth 16
/-- The high-page address `0xFF00 + zext_16(n)` (44_load8.md R201 to R204). -/
def highPage (n : Byte) : Word := 0xFF00 + zext16 n

/-- `x[F] <- v`. -/
def State.setF (s : State) (v : Byte) : State := { s with f := v }
/-- `sp <- v`. -/
def State.setSP (s : State) (v : Word) : State := { s with sp := v }
/-- `pc <- v`. -/
def State.setPC (s : State) (v : Word) : State := { s with pc := v }
/-- `run <- v`. -/
def State.setRun (s : State) (v : RunState) : State := { s with run := v }
/-- `mem <- v`. -/
def State.setMem (s : State) (v : Memory) : State := { s with mem := v }
/-- `ime <- v`. -/
def State.setIme (s : State) (v : Bool) : State := { s with ime := v }
/-- `ei_pending <- v`. -/
def State.setEiPending (s : State) (v : Bool) : State := { s with eiPending := v }

/-- FAULT ENTRY (60_exceptions.md R304): the step stops at this point and `run <- Faulted(reason)`; there is no handler,
no vector and no saved register, and whatever the instruction did before stands (R302, R305). The state is a next state
(log entry 3). No instruction returns from a fault (R309), so there is no operation beside this one. -/
def raise (reason : Fault) (s : State) : Result := .next (s.setRun (.faulted reason))

/-- `MemWrite(a, 1, v)` and then the rest of the instruction (20_memory.md R52, R53): a writable byte is written; otherwise
policy Ignore goes on with memory unchanged, and policy Fault ends the step with StorageWriteFault. -/
def store (addr : Word) (v : Byte) (s : State) (rest : State → Result) : Result :=
  if writable s.cfg addr then rest (s.setMem (s.mem.write addr v))
  else
    match s.cfg.roWritePolicy with
    | .ignore => rest s
    | .fault => raise (.storageWrite addr v) s

/-- `push16(v)` and then the rest of the instruction (00_scope.md R13): `sp` is lowered before each byte is stored, the
high byte first. -/
def push16 (v : Word) (s : State) (rest : State → Result) : Result :=
  store (s.sp - 1) (hiByte v) (s.setSP (s.sp - 1)) fun t =>
    store (t.sp - 1) (loByte v) (t.setSP (t.sp - 1)) rest

/-- The value `pop16()` gives (00_scope.md R13): the low byte at `sp`, the high byte at `sp + 1`. -/
def popValue (s : State) : Word := join (s.mem.read (s.sp + 1)) (s.mem.read s.sp)

/-- The state `pop16()` leaves: `sp` raised by 2. -/
def popState (s : State) : State := s.setSP (s.sp + 2)

/-- The EI delay (40_dispatch.md R109): after an instruction that completed without a fault, if `ei_pending` was 1 when
the step began and still is, `ime <- 1` and `ei_pending <- 0`. A faulting step leaves the delay as it is (R301, R302). -/
def resolveEi (wasPending : Bool) (t : State) : State :=
  match t.run with
  | .faulted _ => t
  | _ => if wasPending && t.eiPending then (t.setIme true).setEiPending false else t

/-- The end of a step: the EI delay, on a next state. -/
def finishStep (wasPending : Bool) : Result → Result
  | .next t => .next (resolveEi wasPending t)
  | .fault r => .fault r
  | .refused r => .refused r

end Sys2Proof.Machine
end

