-- ==== Sys2Proof/Syntax.lean ====
section
/-! DEFINITION. The instructions: one constructor per mnemonic of spec/opcode_table.json, with the operand bytes that follow
the opcode as arguments, and the operand fields of 30_encoding.md R73 to R80.

A constructor's name is its row's text with `_` between the parts: `mHL` is the memory operand `(HL)`, `mHLi` and `mHLd` are
`(HL+)` and `(HL-)`, `mnn`, `mn`, `mBC`, `mDE` and `mC` are `(nn)`, `(n)`, `(BC)`, `(DE)` and `(C)`, and `SPe` is `SP+e`. -/

namespace Sys2Proof

/-- The 8-bit registers of the `r` field, code 110 apart (R73). -/
inductive Reg8 where
  | b | c | d | e | h | l | a
  deriving DecidableEq, Repr

/-- An operand of the `r` field: a register, or for code 110 the byte at `(HL)` (R73). -/
inductive Operand where
  | reg (r : Reg8)
  | atHL
  deriving DecidableEq, Repr

/-- The `dd` pairs (R74). -/
inductive PairSP where
  | bc | de | hl | sp
  deriving DecidableEq, Repr

/-- The `qq` pairs (R76). -/
inductive PairAF where
  | bc | de | hl | af
  deriving DecidableEq, Repr

/-- The conditions (R75). -/
inductive Cond where
  | nz | z | nc | c
  deriving DecidableEq, Repr

/-- The `alu` field's operations, in the field's order (R77). -/
inductive AluOp where
  | add | adc | sub | sbc | and | xor | or | cp
  deriving DecidableEq, Repr

/-- The `y` field's operations in the CB group `g = 00`, in the field's order (R80). -/
inductive ShiftOp where
  | rlc | rrc | rl | rr | sla | sra | swap | srl
  deriving DecidableEq, Repr

/-- A 3-bit field read as a number: a bit number of the CB table (R80), or the `t` field of RST (R78). -/
inductive Index3 where
  | i0 | i1 | i2 | i3 | i4 | i5 | i6 | i7
  deriving DecidableEq, Repr

/-- The number a 3-bit field holds. -/
def Index3.val : Index3 → Nat
  | .i0 => 0
  | .i1 => 1
  | .i2 => 2
  | .i3 => 3
  | .i4 => 4
  | .i5 => 5
  | .i6 => 6
  | .i7 => 7

/-- The instructions: those with operand bytes first (Lean's compiler bounds the position of a constructor that has
fields), and each part in the table's order. -/
inductive Instr where
  | ld_BC_nn (nn : Word)
  | ld_B_n (n : Byte)
  | ld_mnn_SP (nn : Word)
  | ld_C_n (n : Byte)
  /-- STOP and its ignored byte `x` (R91). -/
  | stop (x : Byte)
  | ld_DE_nn (nn : Word)
  | ld_D_n (n : Byte)
  | jr_e (e : Byte)
  | ld_E_n (n : Byte)
  | jr_NZ_e (e : Byte)
  | ld_HL_nn (nn : Word)
  | ld_H_n (n : Byte)
  | jr_Z_e (e : Byte)
  | ld_L_n (n : Byte)
  | jr_NC_e (e : Byte)
  | ld_SP_nn (nn : Word)
  | ld_mHL_n (n : Byte)
  | jr_C_e (e : Byte)
  | ld_A_n (n : Byte)
  | jp_NZ_nn (nn : Word)
  | jp_nn (nn : Word)
  | call_NZ_nn (nn : Word)
  | add_A_n (n : Byte)
  | jp_Z_nn (nn : Word)
  /-- (prefix CB): the prefix row of the base table with its sub-opcode byte (R79, R270). Decoding never gives it: the
  words `CB s` are the extended-table instruction of `s` (log entry 7). -/
  | prefix_CB (sub : Byte)
  | call_Z_nn (nn : Word)
  | call_nn (nn : Word)
  | adc_A_n (n : Byte)
  | jp_NC_nn (nn : Word)
  /-- (no entry): an opcode byte without a base-table entry; `op` is the byte (R86, R301). -/
  | no_entry (op : Byte)
  | call_NC_nn (nn : Word)
  | sub_n (n : Byte)
  | jp_C_nn (nn : Word)
  | call_C_nn (nn : Word)
  | sbc_A_n (n : Byte)
  | ldh_mn_A (n : Byte)
  | and_n (n : Byte)
  | add_SP_e (e : Byte)
  | ld_mnn_A (nn : Word)
  | xor_n (n : Byte)
  | ldh_A_mn (n : Byte)
  | or_n (n : Byte)
  | ld_HL_SPe (e : Byte)
  | ld_A_mnn (nn : Word)
  | cp_n (n : Byte)
  | nop
  | ld_mBC_A
  | inc_BC
  | inc_B
  | dec_B
  | rlca
  | add_HL_BC
  | ld_A_mBC
  | dec_BC
  | inc_C
  | dec_C
  | rrca
  | ld_mDE_A
  | inc_DE
  | inc_D
  | dec_D
  | rla
  | add_HL_DE
  | ld_A_mDE
  | dec_DE
  | inc_E
  | dec_E
  | rra
  | ld_mHLi_A
  | inc_HL
  | inc_H
  | dec_H
  | daa
  | add_HL_HL
  | ld_A_mHLi
  | dec_HL
  | inc_L
  | dec_L
  | cpl
  | ld_mHLd_A
  | inc_SP
  | inc_mHL
  | dec_mHL
  | scf
  | add_HL_SP
  | ld_A_mHLd
  | dec_SP
  | inc_A
  | dec_A
  | ccf
  | ld_B_B
  | ld_B_C
  | ld_B_D
  | ld_B_E
  | ld_B_H
  | ld_B_L
  | ld_B_mHL
  | ld_B_A
  | ld_C_B
  | ld_C_C
  | ld_C_D
  | ld_C_E
  | ld_C_H
  | ld_C_L
  | ld_C_mHL
  | ld_C_A
  | ld_D_B
  | ld_D_C
  | ld_D_D
  | ld_D_E
  | ld_D_H
  | ld_D_L
  | ld_D_mHL
  | ld_D_A
  | ld_E_B
  | ld_E_C
  | ld_E_D
  | ld_E_E
  | ld_E_H
  | ld_E_L
  | ld_E_mHL
  | ld_E_A
  | ld_H_B
  | ld_H_C
  | ld_H_D
  | ld_H_E
  | ld_H_H
  | ld_H_L
  | ld_H_mHL
  | ld_H_A
  | ld_L_B
  | ld_L_C
  | ld_L_D
  | ld_L_E
  | ld_L_H
  | ld_L_L
  | ld_L_mHL
  | ld_L_A
  | ld_mHL_B
  | ld_mHL_C
  | ld_mHL_D
  | ld_mHL_E
  | ld_mHL_H
  | ld_mHL_L
  | halt
  | ld_mHL_A
  | ld_A_B
  | ld_A_C
  | ld_A_D
  | ld_A_E
  | ld_A_H
  | ld_A_L
  | ld_A_mHL
  | ld_A_A
  | add_A_B
  | add_A_C
  | add_A_D
  | add_A_E
  | add_A_H
  | add_A_L
  | add_A_mHL
  | add_A_A
  | adc_A_B
  | adc_A_C
  | adc_A_D
  | adc_A_E
  | adc_A_H
  | adc_A_L
  | adc_A_mHL
  | adc_A_A
  | sub_B
  | sub_C
  | sub_D
  | sub_E
  | sub_H
  | sub_L
  | sub_mHL
  | sub_A
  | sbc_A_B
  | sbc_A_C
  | sbc_A_D
  | sbc_A_E
  | sbc_A_H
  | sbc_A_L
  | sbc_A_mHL
  | sbc_A_A
  | and_B
  | and_C
  | and_D
  | and_E
  | and_H
  | and_L
  | and_mHL
  | and_A
  | xor_B
  | xor_C
  | xor_D
  | xor_E
  | xor_H
  | xor_L
  | xor_mHL
  | xor_A
  | or_B
  | or_C
  | or_D
  | or_E
  | or_H
  | or_L
  | or_mHL
  | or_A
  | cp_B
  | cp_C
  | cp_D
  | cp_E
  | cp_H
  | cp_L
  | cp_mHL
  | cp_A
  | ret_NZ
  | pop_BC
  | push_BC
  | rst_00h
  | ret_Z
  | ret
  | rst_08h
  | ret_NC
  | pop_DE
  | push_DE
  | rst_10h
  | ret_C
  | reti
  | rst_18h
  | pop_HL
  | ld_mC_A
  | push_HL
  | rst_20h
  | jp_HL
  | rst_28h
  | pop_AF
  | ld_A_mC
  | di
  | push_AF
  | rst_30h
  | ld_SP_HL
  | ei
  | rst_38h
  | rlc_B
  | rlc_C
  | rlc_D
  | rlc_E
  | rlc_H
  | rlc_L
  | rlc_mHL
  | rlc_A
  | rrc_B
  | rrc_C
  | rrc_D
  | rrc_E
  | rrc_H
  | rrc_L
  | rrc_mHL
  | rrc_A
  | rl_B
  | rl_C
  | rl_D
  | rl_E
  | rl_H
  | rl_L
  | rl_mHL
  | rl_A
  | rr_B
  | rr_C
  | rr_D
  | rr_E
  | rr_H
  | rr_L
  | rr_mHL
  | rr_A
  | sla_B
  | sla_C
  | sla_D
  | sla_E
  | sla_H
  | sla_L
  | sla_mHL
  | sla_A
  | sra_B
  | sra_C
  | sra_D
  | sra_E
  | sra_H
  | sra_L
  | sra_mHL
  | sra_A
  | swap_B
  | swap_C
  | swap_D
  | swap_E
  | swap_H
  | swap_L
  | swap_mHL
  | swap_A
  | srl_B
  | srl_C
  | srl_D
  | srl_E
  | srl_H
  | srl_L
  | srl_mHL
  | srl_A
  | bit_0_B
  | bit_0_C
  | bit_0_D
  | bit_0_E
  | bit_0_H
  | bit_0_L
  | bit_0_mHL
  | bit_0_A
  | bit_1_B
  | bit_1_C
  | bit_1_D
  | bit_1_E
  | bit_1_H
  | bit_1_L
  | bit_1_mHL
  | bit_1_A
  | bit_2_B
  | bit_2_C
  | bit_2_D
  | bit_2_E
  | bit_2_H
  | bit_2_L
  | bit_2_mHL
  | bit_2_A
  | bit_3_B
  | bit_3_C
  | bit_3_D
  | bit_3_E
  | bit_3_H
  | bit_3_L
  | bit_3_mHL
  | bit_3_A
  | bit_4_B
  | bit_4_C
  | bit_4_D
  | bit_4_E
  | bit_4_H
  | bit_4_L
  | bit_4_mHL
  | bit_4_A
  | bit_5_B
  | bit_5_C
  | bit_5_D
  | bit_5_E
  | bit_5_H
  | bit_5_L
  | bit_5_mHL
  | bit_5_A
  | bit_6_B
  | bit_6_C
  | bit_6_D
  | bit_6_E
  | bit_6_H
  | bit_6_L
  | bit_6_mHL
  | bit_6_A
  | bit_7_B
  | bit_7_C
  | bit_7_D
  | bit_7_E
  | bit_7_H
  | bit_7_L
  | bit_7_mHL
  | bit_7_A
  | res_0_B
  | res_0_C
  | res_0_D
  | res_0_E
  | res_0_H
  | res_0_L
  | res_0_mHL
  | res_0_A
  | res_1_B
  | res_1_C
  | res_1_D
  | res_1_E
  | res_1_H
  | res_1_L
  | res_1_mHL
  | res_1_A
  | res_2_B
  | res_2_C
  | res_2_D
  | res_2_E
  | res_2_H
  | res_2_L
  | res_2_mHL
  | res_2_A
  | res_3_B
  | res_3_C
  | res_3_D
  | res_3_E
  | res_3_H
  | res_3_L
  | res_3_mHL
  | res_3_A
  | res_4_B
  | res_4_C
  | res_4_D
  | res_4_E
  | res_4_H
  | res_4_L
  | res_4_mHL
  | res_4_A
  | res_5_B
  | res_5_C
  | res_5_D
  | res_5_E
  | res_5_H
  | res_5_L
  | res_5_mHL
  | res_5_A
  | res_6_B
  | res_6_C
  | res_6_D
  | res_6_E
  | res_6_H
  | res_6_L
  | res_6_mHL
  | res_6_A
  | res_7_B
  | res_7_C
  | res_7_D
  | res_7_E
  | res_7_H
  | res_7_L
  | res_7_mHL
  | res_7_A
  | set_0_B
  | set_0_C
  | set_0_D
  | set_0_E
  | set_0_H
  | set_0_L
  | set_0_mHL
  | set_0_A
  | set_1_B
  | set_1_C
  | set_1_D
  | set_1_E
  | set_1_H
  | set_1_L
  | set_1_mHL
  | set_1_A
  | set_2_B
  | set_2_C
  | set_2_D
  | set_2_E
  | set_2_H
  | set_2_L
  | set_2_mHL
  | set_2_A
  | set_3_B
  | set_3_C
  | set_3_D
  | set_3_E
  | set_3_H
  | set_3_L
  | set_3_mHL
  | set_3_A
  | set_4_B
  | set_4_C
  | set_4_D
  | set_4_E
  | set_4_H
  | set_4_L
  | set_4_mHL
  | set_4_A
  | set_5_B
  | set_5_C
  | set_5_D
  | set_5_E
  | set_5_H
  | set_5_L
  | set_5_mHL
  | set_5_A
  | set_6_B
  | set_6_C
  | set_6_D
  | set_6_E
  | set_6_H
  | set_6_L
  | set_6_mHL
  | set_6_A
  | set_7_B
  | set_7_C
  | set_7_D
  | set_7_E
  | set_7_H
  | set_7_L
  | set_7_mHL
  | set_7_A
  deriving DecidableEq, Repr

/-! The constructors of one shape, by their operands: the shapes of 30_encoding.md R73 to R80. -/

/-- `LD r,r'`: destination, source (R190). -/
def Instr.ldRegReg : Reg8 → Reg8 → Instr
  | .b, .b => .ld_B_B
  | .b, .c => .ld_B_C
  | .b, .d => .ld_B_D
  | .b, .e => .ld_B_E
  | .b, .h => .ld_B_H
  | .b, .l => .ld_B_L
  | .b, .a => .ld_B_A
  | .c, .b => .ld_C_B
  | .c, .c => .ld_C_C
  | .c, .d => .ld_C_D
  | .c, .e => .ld_C_E
  | .c, .h => .ld_C_H
  | .c, .l => .ld_C_L
  | .c, .a => .ld_C_A
  | .d, .b => .ld_D_B
  | .d, .c => .ld_D_C
  | .d, .d => .ld_D_D
  | .d, .e => .ld_D_E
  | .d, .h => .ld_D_H
  | .d, .l => .ld_D_L
  | .d, .a => .ld_D_A
  | .e, .b => .ld_E_B
  | .e, .c => .ld_E_C
  | .e, .d => .ld_E_D
  | .e, .e => .ld_E_E
  | .e, .h => .ld_E_H
  | .e, .l => .ld_E_L
  | .e, .a => .ld_E_A
  | .h, .b => .ld_H_B
  | .h, .c => .ld_H_C
  | .h, .d => .ld_H_D
  | .h, .e => .ld_H_E
  | .h, .h => .ld_H_H
  | .h, .l => .ld_H_L
  | .h, .a => .ld_H_A
  | .l, .b => .ld_L_B
  | .l, .c => .ld_L_C
  | .l, .d => .ld_L_D
  | .l, .e => .ld_L_E
  | .l, .h => .ld_L_H
  | .l, .l => .ld_L_L
  | .l, .a => .ld_L_A
  | .a, .b => .ld_A_B
  | .a, .c => .ld_A_C
  | .a, .d => .ld_A_D
  | .a, .e => .ld_A_E
  | .a, .h => .ld_A_H
  | .a, .l => .ld_A_L
  | .a, .a => .ld_A_A

/-- `LD r,n` (R191). -/
def Instr.ldRegImm : Reg8 → Byte → Instr
  | .b, n => .ld_B_n n
  | .c, n => .ld_C_n n
  | .d, n => .ld_D_n n
  | .e, n => .ld_E_n n
  | .h, n => .ld_H_n n
  | .l, n => .ld_L_n n
  | .a, n => .ld_A_n n

/-- `LD r,(HL)` (R192). -/
def Instr.ldRegHL : Reg8 → Instr
  | .b => .ld_B_mHL
  | .c => .ld_C_mHL
  | .d => .ld_D_mHL
  | .e => .ld_E_mHL
  | .h => .ld_H_mHL
  | .l => .ld_L_mHL
  | .a => .ld_A_mHL

/-- `LD (HL),r` (R193). -/
def Instr.ldHLReg : Reg8 → Instr
  | .b => .ld_mHL_B
  | .c => .ld_mHL_C
  | .d => .ld_mHL_D
  | .e => .ld_mHL_E
  | .h => .ld_mHL_H
  | .l => .ld_mHL_L
  | .a => .ld_mHL_A

/-- `ALU A,r`, register and (HL) forms (R77). -/
def Instr.alu : AluOp → Operand → Instr
  | .add, .reg .b => .add_A_B
  | .add, .reg .c => .add_A_C
  | .add, .reg .d => .add_A_D
  | .add, .reg .e => .add_A_E
  | .add, .reg .h => .add_A_H
  | .add, .reg .l => .add_A_L
  | .add, .atHL => .add_A_mHL
  | .add, .reg .a => .add_A_A
  | .adc, .reg .b => .adc_A_B
  | .adc, .reg .c => .adc_A_C
  | .adc, .reg .d => .adc_A_D
  | .adc, .reg .e => .adc_A_E
  | .adc, .reg .h => .adc_A_H
  | .adc, .reg .l => .adc_A_L
  | .adc, .atHL => .adc_A_mHL
  | .adc, .reg .a => .adc_A_A
  | .sub, .reg .b => .sub_B
  | .sub, .reg .c => .sub_C
  | .sub, .reg .d => .sub_D
  | .sub, .reg .e => .sub_E
  | .sub, .reg .h => .sub_H
  | .sub, .reg .l => .sub_L
  | .sub, .atHL => .sub_mHL
  | .sub, .reg .a => .sub_A
  | .sbc, .reg .b => .sbc_A_B
  | .sbc, .reg .c => .sbc_A_C
  | .sbc, .reg .d => .sbc_A_D
  | .sbc, .reg .e => .sbc_A_E
  | .sbc, .reg .h => .sbc_A_H
  | .sbc, .reg .l => .sbc_A_L
  | .sbc, .atHL => .sbc_A_mHL
  | .sbc, .reg .a => .sbc_A_A
  | .and, .reg .b => .and_B
  | .and, .reg .c => .and_C
  | .and, .reg .d => .and_D
  | .and, .reg .e => .and_E
  | .and, .reg .h => .and_H
  | .and, .reg .l => .and_L
  | .and, .atHL => .and_mHL
  | .and, .reg .a => .and_A
  | .xor, .reg .b => .xor_B
  | .xor, .reg .c => .xor_C
  | .xor, .reg .d => .xor_D
  | .xor, .reg .e => .xor_E
  | .xor, .reg .h => .xor_H
  | .xor, .reg .l => .xor_L
  | .xor, .atHL => .xor_mHL
  | .xor, .reg .a => .xor_A
  | .or, .reg .b => .or_B
  | .or, .reg .c => .or_C
  | .or, .reg .d => .or_D
  | .or, .reg .e => .or_E
  | .or, .reg .h => .or_H
  | .or, .reg .l => .or_L
  | .or, .atHL => .or_mHL
  | .or, .reg .a => .or_A
  | .cp, .reg .b => .cp_B
  | .cp, .reg .c => .cp_C
  | .cp, .reg .d => .cp_D
  | .cp, .reg .e => .cp_E
  | .cp, .reg .h => .cp_H
  | .cp, .reg .l => .cp_L
  | .cp, .atHL => .cp_mHL
  | .cp, .reg .a => .cp_A

/-- `ALU A,n` (R77). -/
def Instr.aluImm : AluOp → Byte → Instr
  | .add, n => .add_A_n n
  | .adc, n => .adc_A_n n
  | .sub, n => .sub_n n
  | .sbc, n => .sbc_A_n n
  | .and, n => .and_n n
  | .xor, n => .xor_n n
  | .or, n => .or_n n
  | .cp, n => .cp_n n

/-- `INC r` and `INC (HL)` (R174, R175). -/
def Instr.incOp : Operand → Instr
  | .reg .b => .inc_B
  | .reg .c => .inc_C
  | .reg .d => .inc_D
  | .reg .e => .inc_E
  | .reg .h => .inc_H
  | .reg .l => .inc_L
  | .atHL => .inc_mHL
  | .reg .a => .inc_A

/-- `DEC r` and `DEC (HL)` (R176, R177). -/
def Instr.decOp : Operand → Instr
  | .reg .b => .dec_B
  | .reg .c => .dec_C
  | .reg .d => .dec_D
  | .reg .e => .dec_E
  | .reg .h => .dec_H
  | .reg .l => .dec_L
  | .atHL => .dec_mHL
  | .reg .a => .dec_A

/-- `LD rr,nn` (R220). -/
def Instr.ldPairImm : PairSP → Word → Instr
  | .bc, nn => .ld_BC_nn nn
  | .de, nn => .ld_DE_nn nn
  | .hl, nn => .ld_HL_nn nn
  | .sp, nn => .ld_SP_nn nn

/-- `INC rr` (R231). -/
def Instr.incPair : PairSP → Instr
  | .bc => .inc_BC
  | .de => .inc_DE
  | .hl => .inc_HL
  | .sp => .inc_SP

/-- `DEC rr` (R232). -/
def Instr.decPair : PairSP → Instr
  | .bc => .dec_BC
  | .de => .dec_DE
  | .hl => .dec_HL
  | .sp => .dec_SP

/-- `ADD HL,rr` (R230). -/
def Instr.addHLPair : PairSP → Instr
  | .bc => .add_HL_BC
  | .de => .add_HL_DE
  | .hl => .add_HL_HL
  | .sp => .add_HL_SP

/-- `PUSH qq` (R223). -/
def Instr.push : PairAF → Instr
  | .bc => .push_BC
  | .de => .push_DE
  | .hl => .push_HL
  | .af => .push_AF

/-- `POP qq` (R224). -/
def Instr.pop : PairAF → Instr
  | .bc => .pop_BC
  | .de => .pop_DE
  | .hl => .pop_HL
  | .af => .pop_AF

/-- `JP cc,nn` (R241). -/
def Instr.jpIf : Cond → Word → Instr
  | .nz, nn => .jp_NZ_nn nn
  | .z, nn => .jp_Z_nn nn
  | .nc, nn => .jp_NC_nn nn
  | .c, nn => .jp_C_nn nn

/-- `JR cc,e` (R244). -/
def Instr.jrIf : Cond → Byte → Instr
  | .nz, e => .jr_NZ_e e
  | .z, e => .jr_Z_e e
  | .nc, e => .jr_NC_e e
  | .c, e => .jr_C_e e

/-- `CALL cc,nn` (R246). -/
def Instr.callIf : Cond → Word → Instr
  | .nz, nn => .call_NZ_nn nn
  | .z, nn => .call_Z_nn nn
  | .nc, nn => .call_NC_nn nn
  | .c, nn => .call_C_nn nn

/-- `RET cc` (R248). -/
def Instr.retIf : Cond → Instr
  | .nz => .ret_NZ
  | .z => .ret_Z
  | .nc => .ret_NC
  | .c => .ret_C

/-- `RST t`, by the 3-bit field whose target is `8 * field` (R78, R250). -/
def Instr.rst : Index3 → Instr
  | .i0 => .rst_00h
  | .i1 => .rst_08h
  | .i2 => .rst_10h
  | .i3 => .rst_18h
  | .i4 => .rst_20h
  | .i5 => .rst_28h
  | .i6 => .rst_30h
  | .i7 => .rst_38h

/-- The CB rotates and shifts (R271 to R286). -/
def Instr.shift : ShiftOp → Operand → Instr
  | .rlc, .reg .b => .rlc_B
  | .rlc, .reg .c => .rlc_C
  | .rlc, .reg .d => .rlc_D
  | .rlc, .reg .e => .rlc_E
  | .rlc, .reg .h => .rlc_H
  | .rlc, .reg .l => .rlc_L
  | .rlc, .atHL => .rlc_mHL
  | .rlc, .reg .a => .rlc_A
  | .rrc, .reg .b => .rrc_B
  | .rrc, .reg .c => .rrc_C
  | .rrc, .reg .d => .rrc_D
  | .rrc, .reg .e => .rrc_E
  | .rrc, .reg .h => .rrc_H
  | .rrc, .reg .l => .rrc_L
  | .rrc, .atHL => .rrc_mHL
  | .rrc, .reg .a => .rrc_A
  | .rl, .reg .b => .rl_B
  | .rl, .reg .c => .rl_C
  | .rl, .reg .d => .rl_D
  | .rl, .reg .e => .rl_E
  | .rl, .reg .h => .rl_H
  | .rl, .reg .l => .rl_L
  | .rl, .atHL => .rl_mHL
  | .rl, .reg .a => .rl_A
  | .rr, .reg .b => .rr_B
  | .rr, .reg .c => .rr_C
  | .rr, .reg .d => .rr_D
  | .rr, .reg .e => .rr_E
  | .rr, .reg .h => .rr_H
  | .rr, .reg .l => .rr_L
  | .rr, .atHL => .rr_mHL
  | .rr, .reg .a => .rr_A
  | .sla, .reg .b => .sla_B
  | .sla, .reg .c => .sla_C
  | .sla, .reg .d => .sla_D
  | .sla, .reg .e => .sla_E
  | .sla, .reg .h => .sla_H
  | .sla, .reg .l => .sla_L
  | .sla, .atHL => .sla_mHL
  | .sla, .reg .a => .sla_A
  | .sra, .reg .b => .sra_B
  | .sra, .reg .c => .sra_C
  | .sra, .reg .d => .sra_D
  | .sra, .reg .e => .sra_E
  | .sra, .reg .h => .sra_H
  | .sra, .reg .l => .sra_L
  | .sra, .atHL => .sra_mHL
  | .sra, .reg .a => .sra_A
  | .swap, .reg .b => .swap_B
  | .swap, .reg .c => .swap_C
  | .swap, .reg .d => .swap_D
  | .swap, .reg .e => .swap_E
  | .swap, .reg .h => .swap_H
  | .swap, .reg .l => .swap_L
  | .swap, .atHL => .swap_mHL
  | .swap, .reg .a => .swap_A
  | .srl, .reg .b => .srl_B
  | .srl, .reg .c => .srl_C
  | .srl, .reg .d => .srl_D
  | .srl, .reg .e => .srl_E
  | .srl, .reg .h => .srl_H
  | .srl, .reg .l => .srl_L
  | .srl, .atHL => .srl_mHL
  | .srl, .reg .a => .srl_A

/-- `BIT b,r` and `BIT b,(HL)` (R287, R288). -/
def Instr.bitOp : Index3 → Operand → Instr
  | .i0, .reg .b => .bit_0_B
  | .i0, .reg .c => .bit_0_C
  | .i0, .reg .d => .bit_0_D
  | .i0, .reg .e => .bit_0_E
  | .i0, .reg .h => .bit_0_H
  | .i0, .reg .l => .bit_0_L
  | .i0, .atHL => .bit_0_mHL
  | .i0, .reg .a => .bit_0_A
  | .i1, .reg .b => .bit_1_B
  | .i1, .reg .c => .bit_1_C
  | .i1, .reg .d => .bit_1_D
  | .i1, .reg .e => .bit_1_E
  | .i1, .reg .h => .bit_1_H
  | .i1, .reg .l => .bit_1_L
  | .i1, .atHL => .bit_1_mHL
  | .i1, .reg .a => .bit_1_A
  | .i2, .reg .b => .bit_2_B
  | .i2, .reg .c => .bit_2_C
  | .i2, .reg .d => .bit_2_D
  | .i2, .reg .e => .bit_2_E
  | .i2, .reg .h => .bit_2_H
  | .i2, .reg .l => .bit_2_L
  | .i2, .atHL => .bit_2_mHL
  | .i2, .reg .a => .bit_2_A
  | .i3, .reg .b => .bit_3_B
  | .i3, .reg .c => .bit_3_C
  | .i3, .reg .d => .bit_3_D
  | .i3, .reg .e => .bit_3_E
  | .i3, .reg .h => .bit_3_H
  | .i3, .reg .l => .bit_3_L
  | .i3, .atHL => .bit_3_mHL
  | .i3, .reg .a => .bit_3_A
  | .i4, .reg .b => .bit_4_B
  | .i4, .reg .c => .bit_4_C
  | .i4, .reg .d => .bit_4_D
  | .i4, .reg .e => .bit_4_E
  | .i4, .reg .h => .bit_4_H
  | .i4, .reg .l => .bit_4_L
  | .i4, .atHL => .bit_4_mHL
  | .i4, .reg .a => .bit_4_A
  | .i5, .reg .b => .bit_5_B
  | .i5, .reg .c => .bit_5_C
  | .i5, .reg .d => .bit_5_D
  | .i5, .reg .e => .bit_5_E
  | .i5, .reg .h => .bit_5_H
  | .i5, .reg .l => .bit_5_L
  | .i5, .atHL => .bit_5_mHL
  | .i5, .reg .a => .bit_5_A
  | .i6, .reg .b => .bit_6_B
  | .i6, .reg .c => .bit_6_C
  | .i6, .reg .d => .bit_6_D
  | .i6, .reg .e => .bit_6_E
  | .i6, .reg .h => .bit_6_H
  | .i6, .reg .l => .bit_6_L
  | .i6, .atHL => .bit_6_mHL
  | .i6, .reg .a => .bit_6_A
  | .i7, .reg .b => .bit_7_B
  | .i7, .reg .c => .bit_7_C
  | .i7, .reg .d => .bit_7_D
  | .i7, .reg .e => .bit_7_E
  | .i7, .reg .h => .bit_7_H
  | .i7, .reg .l => .bit_7_L
  | .i7, .atHL => .bit_7_mHL
  | .i7, .reg .a => .bit_7_A

/-- `RES b,r` and `RES b,(HL)` (R289, R290). -/
def Instr.resOp : Index3 → Operand → Instr
  | .i0, .reg .b => .res_0_B
  | .i0, .reg .c => .res_0_C
  | .i0, .reg .d => .res_0_D
  | .i0, .reg .e => .res_0_E
  | .i0, .reg .h => .res_0_H
  | .i0, .reg .l => .res_0_L
  | .i0, .atHL => .res_0_mHL
  | .i0, .reg .a => .res_0_A
  | .i1, .reg .b => .res_1_B
  | .i1, .reg .c => .res_1_C
  | .i1, .reg .d => .res_1_D
  | .i1, .reg .e => .res_1_E
  | .i1, .reg .h => .res_1_H
  | .i1, .reg .l => .res_1_L
  | .i1, .atHL => .res_1_mHL
  | .i1, .reg .a => .res_1_A
  | .i2, .reg .b => .res_2_B
  | .i2, .reg .c => .res_2_C
  | .i2, .reg .d => .res_2_D
  | .i2, .reg .e => .res_2_E
  | .i2, .reg .h => .res_2_H
  | .i2, .reg .l => .res_2_L
  | .i2, .atHL => .res_2_mHL
  | .i2, .reg .a => .res_2_A
  | .i3, .reg .b => .res_3_B
  | .i3, .reg .c => .res_3_C
  | .i3, .reg .d => .res_3_D
  | .i3, .reg .e => .res_3_E
  | .i3, .reg .h => .res_3_H
  | .i3, .reg .l => .res_3_L
  | .i3, .atHL => .res_3_mHL
  | .i3, .reg .a => .res_3_A
  | .i4, .reg .b => .res_4_B
  | .i4, .reg .c => .res_4_C
  | .i4, .reg .d => .res_4_D
  | .i4, .reg .e => .res_4_E
  | .i4, .reg .h => .res_4_H
  | .i4, .reg .l => .res_4_L
  | .i4, .atHL => .res_4_mHL
  | .i4, .reg .a => .res_4_A
  | .i5, .reg .b => .res_5_B
  | .i5, .reg .c => .res_5_C
  | .i5, .reg .d => .res_5_D
  | .i5, .reg .e => .res_5_E
  | .i5, .reg .h => .res_5_H
  | .i5, .reg .l => .res_5_L
  | .i5, .atHL => .res_5_mHL
  | .i5, .reg .a => .res_5_A
  | .i6, .reg .b => .res_6_B
  | .i6, .reg .c => .res_6_C
  | .i6, .reg .d => .res_6_D
  | .i6, .reg .e => .res_6_E
  | .i6, .reg .h => .res_6_H
  | .i6, .reg .l => .res_6_L
  | .i6, .atHL => .res_6_mHL
  | .i6, .reg .a => .res_6_A
  | .i7, .reg .b => .res_7_B
  | .i7, .reg .c => .res_7_C
  | .i7, .reg .d => .res_7_D
  | .i7, .reg .e => .res_7_E
  | .i7, .reg .h => .res_7_H
  | .i7, .reg .l => .res_7_L
  | .i7, .atHL => .res_7_mHL
  | .i7, .reg .a => .res_7_A

/-- `SET b,r` and `SET b,(HL)` (R291, R292). -/
def Instr.setOp : Index3 → Operand → Instr
  | .i0, .reg .b => .set_0_B
  | .i0, .reg .c => .set_0_C
  | .i0, .reg .d => .set_0_D
  | .i0, .reg .e => .set_0_E
  | .i0, .reg .h => .set_0_H
  | .i0, .reg .l => .set_0_L
  | .i0, .atHL => .set_0_mHL
  | .i0, .reg .a => .set_0_A
  | .i1, .reg .b => .set_1_B
  | .i1, .reg .c => .set_1_C
  | .i1, .reg .d => .set_1_D
  | .i1, .reg .e => .set_1_E
  | .i1, .reg .h => .set_1_H
  | .i1, .reg .l => .set_1_L
  | .i1, .atHL => .set_1_mHL
  | .i1, .reg .a => .set_1_A
  | .i2, .reg .b => .set_2_B
  | .i2, .reg .c => .set_2_C
  | .i2, .reg .d => .set_2_D
  | .i2, .reg .e => .set_2_E
  | .i2, .reg .h => .set_2_H
  | .i2, .reg .l => .set_2_L
  | .i2, .atHL => .set_2_mHL
  | .i2, .reg .a => .set_2_A
  | .i3, .reg .b => .set_3_B
  | .i3, .reg .c => .set_3_C
  | .i3, .reg .d => .set_3_D
  | .i3, .reg .e => .set_3_E
  | .i3, .reg .h => .set_3_H
  | .i3, .reg .l => .set_3_L
  | .i3, .atHL => .set_3_mHL
  | .i3, .reg .a => .set_3_A
  | .i4, .reg .b => .set_4_B
  | .i4, .reg .c => .set_4_C
  | .i4, .reg .d => .set_4_D
  | .i4, .reg .e => .set_4_E
  | .i4, .reg .h => .set_4_H
  | .i4, .reg .l => .set_4_L
  | .i4, .atHL => .set_4_mHL
  | .i4, .reg .a => .set_4_A
  | .i5, .reg .b => .set_5_B
  | .i5, .reg .c => .set_5_C
  | .i5, .reg .d => .set_5_D
  | .i5, .reg .e => .set_5_E
  | .i5, .reg .h => .set_5_H
  | .i5, .reg .l => .set_5_L
  | .i5, .atHL => .set_5_mHL
  | .i5, .reg .a => .set_5_A
  | .i6, .reg .b => .set_6_B
  | .i6, .reg .c => .set_6_C
  | .i6, .reg .d => .set_6_D
  | .i6, .reg .e => .set_6_E
  | .i6, .reg .h => .set_6_H
  | .i6, .reg .l => .set_6_L
  | .i6, .atHL => .set_6_mHL
  | .i6, .reg .a => .set_6_A
  | .i7, .reg .b => .set_7_B
  | .i7, .reg .c => .set_7_C
  | .i7, .reg .d => .set_7_D
  | .i7, .reg .e => .set_7_E
  | .i7, .reg .h => .set_7_H
  | .i7, .reg .l => .set_7_L
  | .i7, .atHL => .set_7_mHL
  | .i7, .reg .a => .set_7_A

end Sys2Proof
end

