-- ==== Sys2Proof/Machine/Operands.lean ====
section
/-! DEFINITION. Every operand form: the 8-bit registers, the byte at (HL), the register pairs, the conditions, and the
operation selectors of the ALU and CB fields. -/

namespace Sys2Proof.Machine

/-- `x[r]` for the registers of the `r` field (00_scope.md R12, 30_encoding.md R73). -/
def State.reg (s : State) : Reg8 → Byte
  | .b => s.b
  | .c => s.c
  | .d => s.d
  | .e => s.e
  | .h => s.h
  | .l => s.l
  | .a => s.a

/-- `x[r] <- v`. -/
def State.setReg (s : State) (r : Reg8) (v : Byte) : State :=
  match r with
  | .b => { s with b := v }
  | .c => { s with c := v }
  | .d => { s with d := v }
  | .e => { s with e := v }
  | .h => { s with h := v }
  | .l => { s with l := v }
  | .a => { s with a := v }

/-- The pair views (10_state.md R22). -/
def State.bc (s : State) : Word := join s.b s.c
/-- `xp[DE]`. -/
def State.de (s : State) : Word := join s.d s.e
/-- `xp[HL]`. -/
def State.hl (s : State) : Word := join s.h s.l
/-- `xp[AF]`. -/
def State.af (s : State) : Word := join s.a s.f

/-- `xp[BC] <- v` (10_state.md R23). -/
def State.setBC (s : State) (v : Word) : State := { s with b := hiByte v, c := loByte v }
/-- `xp[DE] <- v`. -/
def State.setDE (s : State) (v : Word) : State := { s with d := hiByte v, e := loByte v }
/-- `xp[HL] <- v`. -/
def State.setHL (s : State) (v : Word) : State := { s with h := hiByte v, l := loByte v }
/-- `xp[AF] <- v`: F takes `v[7:0] & 0xF0` (10_state.md R23). -/
def State.setAF (s : State) (v : Word) : State := { s with a := hiByte v, f := loByte v &&& 0xF0 }

/-- The `dd` pair (30_encoding.md R74). -/
def State.pair (s : State) : PairSP → Word
  | .bc => s.bc
  | .de => s.de
  | .hl => s.hl
  | .sp => s.sp

/-- Writing the `dd` pair. -/
def State.setPair (s : State) (p : PairSP) (v : Word) : State :=
  match p with
  | .bc => s.setBC v
  | .de => s.setDE v
  | .hl => s.setHL v
  | .sp => s.setSP v

/-- The `qq` pair (30_encoding.md R76). -/
def State.stackPair (s : State) : PairAF → Word
  | .bc => s.bc
  | .de => s.de
  | .hl => s.hl
  | .af => s.af

/-- Writing the `qq` pair. -/
def State.setStackPair (s : State) (p : PairAF) (v : Word) : State :=
  match p with
  | .bc => s.setBC v
  | .de => s.setDE v
  | .hl => s.setHL v
  | .af => s.setAF v

/-- The value of an `r`-field operand: a register, or the byte at `xp[HL]` (30_encoding.md R73). -/
def State.operand (s : State) : Operand → Byte
  | .reg r => s.reg r
  | .atHL => s.mem.read s.hl

/-- `cond(cc)` read on the flags (30_encoding.md R75). -/
def condHolds (cc : Cond) (f : Byte) : Bool :=
  match cc with
  | .nz => !flagZ f
  | .z => flagZ f
  | .nc => !flagC f
  | .c => flagC f

/-- The ALU function of the `alu` field (30_encoding.md R77), on A and the second operand. -/
def evalAlu (op : AluOp) (x y : Byte) (cin : Bool) : Byte × Byte :=
  match op with
  | .add => aluAdd x y
  | .adc => aluAdc x y cin
  | .sub => aluSub x y
  | .sbc => aluSbc x y cin
  | .and => aluAnd x y
  | .xor => aluXor x y
  | .or => aluOr x y
  | .cp => aluCp x y

/-- The result and flags of a CB rotate or shift (49_cb_prefix.md R271, R273, R275, R277, R279, R281, R283, R285). -/
def evalShift (op : ShiftOp) (v : Byte) (cin : Bool) : Byte × Byte :=
  match op with
  | .rlc => (rotl8 v, shiftF (rotl8 v) (v.getLsbD 7))
  | .rrc => (rotr8 v, shiftF (rotr8 v) (v.getLsbD 0))
  | .rl => (rotlc8 v cin, shiftF (rotlc8 v cin) (v.getLsbD 7))
  | .rr => (rotrc8 v cin, shiftF (rotrc8 v cin) (v.getLsbD 0))
  | .sla => (v <<< 1, shiftF (v <<< 1) (v.getLsbD 7))
  | .sra => ((v >>> 1) ||| (v &&& 0x80), shiftF ((v >>> 1) ||| (v &&& 0x80)) (v.getLsbD 0))
  | .swap => ((v <<< 4) ||| (v >>> 4), shiftF ((v <<< 4) ||| (v >>> 4)) false)
  | .srl => (v >>> 1, shiftF (v >>> 1) (v.getLsbD 0))

/-- The F that BIT b writes: Z is the complement of the bit, N = 0, H = 1, C unchanged (49_cb_prefix.md R287). -/
def bitF (v : Byte) (i : Index3) (f : Byte) : Byte := packF (!v.getLsbD i.val) false true (flagC f)

/-- `v & ~(1 << b)` (49_cb_prefix.md R289). -/
def resBit (v : Byte) (i : Index3) : Byte := v &&& ~~~((1 : Byte) <<< i.val)

/-- `v | (1 << b)` (49_cb_prefix.md R291). -/
def setBit (v : Byte) (i : Index3) : Byte := v ||| ((1 : Byte) <<< i.val)

end Sys2Proof.Machine
end

