-- ==== Sys2Proof/Machine/Arith16.lean ====
section
/-! DEFINITION. 16-bit arithmetic (46_arith16.md R230 to R233). -/

namespace Sys2Proof.Machine

/-- ADD HL,rr (R230). -/
def addHL (v : Word) (s : State) : Result :=
  .next ((s.setHL (add16HL s.hl v (flagZ s.f)).1).setF (add16HL s.hl v (flagZ s.f)).2)

/-- INC rr and DEC rr (R231, R232): no flag is written. -/
def putPair (p : PairSP) (v : Word) (s : State) : Result := .next (s.setPair p v)

/-- ADD SP,e (R233). -/
def addSP (e : Byte) (s : State) : Result := .next ((s.setSP (addSPe s.sp e).1).setF (addSPe s.sp e).2)

/-- R231: INC BC. -/
def execInc_BC (s : State) : Result := putPair .bc (s.pair .bc + 1) s

/-- R230: ADD HL,BC. -/
def execAdd_HL_BC (s : State) : Result := addHL (s.pair .bc) s

/-- R232: DEC BC. -/
def execDec_BC (s : State) : Result := putPair .bc (s.pair .bc - 1) s

/-- R231: INC DE. -/
def execInc_DE (s : State) : Result := putPair .de (s.pair .de + 1) s

/-- R230: ADD HL,DE. -/
def execAdd_HL_DE (s : State) : Result := addHL (s.pair .de) s

/-- R232: DEC DE. -/
def execDec_DE (s : State) : Result := putPair .de (s.pair .de - 1) s

/-- R231: INC HL. -/
def execInc_HL (s : State) : Result := putPair .hl (s.pair .hl + 1) s

/-- R230: ADD HL,HL. -/
def execAdd_HL_HL (s : State) : Result := addHL (s.pair .hl) s

/-- R232: DEC HL. -/
def execDec_HL (s : State) : Result := putPair .hl (s.pair .hl - 1) s

/-- R231: INC SP. -/
def execInc_SP (s : State) : Result := putPair .sp (s.pair .sp + 1) s

/-- R230: ADD HL,SP. -/
def execAdd_HL_SP (s : State) : Result := addHL (s.pair .sp) s

/-- R232: DEC SP. -/
def execDec_SP (s : State) : Result := putPair .sp (s.pair .sp - 1) s

/-- R233: ADD SP,e. -/
def execAdd_SP_e (e : Byte) (s : State) : Result := addSP e s

end Sys2Proof.Machine
end

