-- ==== Sys2Proof/Machine/Arith8.lean ====
section
/-! DEFINITION. 8-bit arithmetic and logic (42_arith8.md R150 to R177). -/

namespace Sys2Proof.Machine

/-- An 8-bit ALU operation on A and `v`: the result to A, F' to F. CP's function gives A back, so A keeps its value. -/
def aluAcc (op : AluOp) (v : Byte) (s : State) : Result :=
  .next ((s.setReg .a (evalAlu op s.a v (flagC s.f)).1).setF (evalAlu op s.a v (flagC s.f)).2)

/-- INC r (R174). -/
def incReg (r : Reg8) (s : State) : Result :=
  .next ((s.setReg r (aluInc (s.reg r) (flagC s.f)).1).setF (aluInc (s.reg r) (flagC s.f)).2)

/-- DEC r (R176). -/
def decReg (r : Reg8) (s : State) : Result :=
  .next ((s.setReg r (aluDec (s.reg r) (flagC s.f)).1).setF (aluDec (s.reg r) (flagC s.f)).2)

/-- INC (HL) (R175): the store comes before F, so a faulting store leaves F. -/
def incMem (s : State) : Result :=
  store s.hl (aluInc (s.mem.read s.hl) (flagC s.f)).1 s fun t =>
    .next (t.setF (aluInc (s.mem.read s.hl) (flagC s.f)).2)

/-- DEC (HL) (R177). -/
def decMem (s : State) : Result :=
  store s.hl (aluDec (s.mem.read s.hl) (flagC s.f)).1 s fun t =>
    .next (t.setF (aluDec (s.mem.read s.hl) (flagC s.f)).2)

/-- R174: INC B. -/
def execInc_B (s : State) : Result := incReg .b s

/-- R176: DEC B. -/
def execDec_B (s : State) : Result := decReg .b s

/-- R174: INC C. -/
def execInc_C (s : State) : Result := incReg .c s

/-- R176: DEC C. -/
def execDec_C (s : State) : Result := decReg .c s

/-- R174: INC D. -/
def execInc_D (s : State) : Result := incReg .d s

/-- R176: DEC D. -/
def execDec_D (s : State) : Result := decReg .d s

/-- R174: INC E. -/
def execInc_E (s : State) : Result := incReg .e s

/-- R176: DEC E. -/
def execDec_E (s : State) : Result := decReg .e s

/-- R174: INC H. -/
def execInc_H (s : State) : Result := incReg .h s

/-- R176: DEC H. -/
def execDec_H (s : State) : Result := decReg .h s

/-- R174: INC L. -/
def execInc_L (s : State) : Result := incReg .l s

/-- R176: DEC L. -/
def execDec_L (s : State) : Result := decReg .l s

/-- R175: INC (HL). -/
def execInc_mHL (s : State) : Result := incMem s

/-- R177: DEC (HL). -/
def execDec_mHL (s : State) : Result := decMem s

/-- R174: INC A. -/
def execInc_A (s : State) : Result := incReg .a s

/-- R176: DEC A. -/
def execDec_A (s : State) : Result := decReg .a s

/-- R150: ADD A,B. -/
def execAdd_A_B (s : State) : Result := aluAcc .add (s.operand (.reg .b)) s

/-- R150: ADD A,C. -/
def execAdd_A_C (s : State) : Result := aluAcc .add (s.operand (.reg .c)) s

/-- R150: ADD A,D. -/
def execAdd_A_D (s : State) : Result := aluAcc .add (s.operand (.reg .d)) s

/-- R150: ADD A,E. -/
def execAdd_A_E (s : State) : Result := aluAcc .add (s.operand (.reg .e)) s

/-- R150: ADD A,H. -/
def execAdd_A_H (s : State) : Result := aluAcc .add (s.operand (.reg .h)) s

/-- R150: ADD A,L. -/
def execAdd_A_L (s : State) : Result := aluAcc .add (s.operand (.reg .l)) s

/-- R151: ADD A,(HL). -/
def execAdd_A_mHL (s : State) : Result := aluAcc .add (s.operand .atHL) s

/-- R150: ADD A,A. -/
def execAdd_A_A (s : State) : Result := aluAcc .add (s.operand (.reg .a)) s

/-- R153: ADC A,B. -/
def execAdc_A_B (s : State) : Result := aluAcc .adc (s.operand (.reg .b)) s

/-- R153: ADC A,C. -/
def execAdc_A_C (s : State) : Result := aluAcc .adc (s.operand (.reg .c)) s

/-- R153: ADC A,D. -/
def execAdc_A_D (s : State) : Result := aluAcc .adc (s.operand (.reg .d)) s

/-- R153: ADC A,E. -/
def execAdc_A_E (s : State) : Result := aluAcc .adc (s.operand (.reg .e)) s

/-- R153: ADC A,H. -/
def execAdc_A_H (s : State) : Result := aluAcc .adc (s.operand (.reg .h)) s

/-- R153: ADC A,L. -/
def execAdc_A_L (s : State) : Result := aluAcc .adc (s.operand (.reg .l)) s

/-- R154: ADC A,(HL). -/
def execAdc_A_mHL (s : State) : Result := aluAcc .adc (s.operand .atHL) s

/-- R153: ADC A,A. -/
def execAdc_A_A (s : State) : Result := aluAcc .adc (s.operand (.reg .a)) s

/-- R156: SUB B. -/
def execSub_B (s : State) : Result := aluAcc .sub (s.operand (.reg .b)) s

/-- R156: SUB C. -/
def execSub_C (s : State) : Result := aluAcc .sub (s.operand (.reg .c)) s

/-- R156: SUB D. -/
def execSub_D (s : State) : Result := aluAcc .sub (s.operand (.reg .d)) s

/-- R156: SUB E. -/
def execSub_E (s : State) : Result := aluAcc .sub (s.operand (.reg .e)) s

/-- R156: SUB H. -/
def execSub_H (s : State) : Result := aluAcc .sub (s.operand (.reg .h)) s

/-- R156: SUB L. -/
def execSub_L (s : State) : Result := aluAcc .sub (s.operand (.reg .l)) s

/-- R157: SUB (HL). -/
def execSub_mHL (s : State) : Result := aluAcc .sub (s.operand .atHL) s

/-- R156: SUB A. -/
def execSub_A (s : State) : Result := aluAcc .sub (s.operand (.reg .a)) s

/-- R159: SBC A,B. -/
def execSbc_A_B (s : State) : Result := aluAcc .sbc (s.operand (.reg .b)) s

/-- R159: SBC A,C. -/
def execSbc_A_C (s : State) : Result := aluAcc .sbc (s.operand (.reg .c)) s

/-- R159: SBC A,D. -/
def execSbc_A_D (s : State) : Result := aluAcc .sbc (s.operand (.reg .d)) s

/-- R159: SBC A,E. -/
def execSbc_A_E (s : State) : Result := aluAcc .sbc (s.operand (.reg .e)) s

/-- R159: SBC A,H. -/
def execSbc_A_H (s : State) : Result := aluAcc .sbc (s.operand (.reg .h)) s

/-- R159: SBC A,L. -/
def execSbc_A_L (s : State) : Result := aluAcc .sbc (s.operand (.reg .l)) s

/-- R160: SBC A,(HL). -/
def execSbc_A_mHL (s : State) : Result := aluAcc .sbc (s.operand .atHL) s

/-- R159: SBC A,A. -/
def execSbc_A_A (s : State) : Result := aluAcc .sbc (s.operand (.reg .a)) s

/-- R162: AND B. -/
def execAnd_B (s : State) : Result := aluAcc .and (s.operand (.reg .b)) s

/-- R162: AND C. -/
def execAnd_C (s : State) : Result := aluAcc .and (s.operand (.reg .c)) s

/-- R162: AND D. -/
def execAnd_D (s : State) : Result := aluAcc .and (s.operand (.reg .d)) s

/-- R162: AND E. -/
def execAnd_E (s : State) : Result := aluAcc .and (s.operand (.reg .e)) s

/-- R162: AND H. -/
def execAnd_H (s : State) : Result := aluAcc .and (s.operand (.reg .h)) s

/-- R162: AND L. -/
def execAnd_L (s : State) : Result := aluAcc .and (s.operand (.reg .l)) s

/-- R163: AND (HL). -/
def execAnd_mHL (s : State) : Result := aluAcc .and (s.operand .atHL) s

/-- R162: AND A. -/
def execAnd_A (s : State) : Result := aluAcc .and (s.operand (.reg .a)) s

/-- R165: XOR B. -/
def execXor_B (s : State) : Result := aluAcc .xor (s.operand (.reg .b)) s

/-- R165: XOR C. -/
def execXor_C (s : State) : Result := aluAcc .xor (s.operand (.reg .c)) s

/-- R165: XOR D. -/
def execXor_D (s : State) : Result := aluAcc .xor (s.operand (.reg .d)) s

/-- R165: XOR E. -/
def execXor_E (s : State) : Result := aluAcc .xor (s.operand (.reg .e)) s

/-- R165: XOR H. -/
def execXor_H (s : State) : Result := aluAcc .xor (s.operand (.reg .h)) s

/-- R165: XOR L. -/
def execXor_L (s : State) : Result := aluAcc .xor (s.operand (.reg .l)) s

/-- R166: XOR (HL). -/
def execXor_mHL (s : State) : Result := aluAcc .xor (s.operand .atHL) s

/-- R165: XOR A. -/
def execXor_A (s : State) : Result := aluAcc .xor (s.operand (.reg .a)) s

/-- R168: OR B. -/
def execOr_B (s : State) : Result := aluAcc .or (s.operand (.reg .b)) s

/-- R168: OR C. -/
def execOr_C (s : State) : Result := aluAcc .or (s.operand (.reg .c)) s

/-- R168: OR D. -/
def execOr_D (s : State) : Result := aluAcc .or (s.operand (.reg .d)) s

/-- R168: OR E. -/
def execOr_E (s : State) : Result := aluAcc .or (s.operand (.reg .e)) s

/-- R168: OR H. -/
def execOr_H (s : State) : Result := aluAcc .or (s.operand (.reg .h)) s

/-- R168: OR L. -/
def execOr_L (s : State) : Result := aluAcc .or (s.operand (.reg .l)) s

/-- R169: OR (HL). -/
def execOr_mHL (s : State) : Result := aluAcc .or (s.operand .atHL) s

/-- R168: OR A. -/
def execOr_A (s : State) : Result := aluAcc .or (s.operand (.reg .a)) s

/-- R171: CP B. -/
def execCp_B (s : State) : Result := aluAcc .cp (s.operand (.reg .b)) s

/-- R171: CP C. -/
def execCp_C (s : State) : Result := aluAcc .cp (s.operand (.reg .c)) s

/-- R171: CP D. -/
def execCp_D (s : State) : Result := aluAcc .cp (s.operand (.reg .d)) s

/-- R171: CP E. -/
def execCp_E (s : State) : Result := aluAcc .cp (s.operand (.reg .e)) s

/-- R171: CP H. -/
def execCp_H (s : State) : Result := aluAcc .cp (s.operand (.reg .h)) s

/-- R171: CP L. -/
def execCp_L (s : State) : Result := aluAcc .cp (s.operand (.reg .l)) s

/-- R172: CP (HL). -/
def execCp_mHL (s : State) : Result := aluAcc .cp (s.operand .atHL) s

/-- R171: CP A. -/
def execCp_A (s : State) : Result := aluAcc .cp (s.operand (.reg .a)) s

/-- R152: ADD A,n. -/
def execAdd_A_n (n : Byte) (s : State) : Result := aluAcc .add n s

/-- R155: ADC A,n. -/
def execAdc_A_n (n : Byte) (s : State) : Result := aluAcc .adc n s

/-- R158: SUB n. -/
def execSub_n (n : Byte) (s : State) : Result := aluAcc .sub n s

/-- R161: SBC A,n. -/
def execSbc_A_n (n : Byte) (s : State) : Result := aluAcc .sbc n s

/-- R164: AND n. -/
def execAnd_n (n : Byte) (s : State) : Result := aluAcc .and n s

/-- R167: XOR n. -/
def execXor_n (n : Byte) (s : State) : Result := aluAcc .xor n s

/-- R170: OR n. -/
def execOr_n (n : Byte) (s : State) : Result := aluAcc .or n s

/-- R173: CP n. -/
def execCp_n (n : Byte) (s : State) : Result := aluAcc .cp n s

end Sys2Proof.Machine
end

