-- ==== Sys2Proof/WellFormed.lean ====
section
/-! DEFINITION. The well-formed instructions: those some bytes stand for. Two checks: the byte of `no_entry` is one of the
eleven bytes of 30_encoding.md R86, and the prefix row is no instruction (R79). -/

namespace Sys2Proof

/-- The eleven base opcode bytes without a table entry (R86). -/
def unassignedOpcodes : List Byte :=
  [0xD3, 0xDB, 0xDD, 0xE3, 0xE4, 0xEB, 0xEC, 0xED, 0xF4, 0xFC, 0xFD]

/-- Whether some bytes decode to this instruction. -/
def Instr.WellFormed : Instr → Bool
  | .no_entry op => unassignedOpcodes.contains op
  | .prefix_CB _ => false
  | _ => true

end Sys2Proof
end

