-- ==== Sys2Proof/Decode.lean ====
section
/-! DEFINITION. Decoding bytes to instructions (30_encoding.md R70 to R91), and after it the encoder. The decoder's tables are
the maps of R84 and R85, a row of sixteen entries for each high nibble; the encoder lists each instruction's bytes. -/

namespace Sys2Proof

/-- What the base table says of an opcode byte (R84): the format of R71 with its constructor, the extended table, or no
entry. -/
inductive Entry where
  /-- Format F0: the opcode is the whole instruction. -/
  | one (i : Instr)
  /-- Formats F1n, F1e and FS: one byte follows. -/
  | two (f : Byte → Instr)
  /-- Format F2: two bytes follow, the low one first. -/
  | three (f : Word → Instr)
  /-- 0xCB: a sub-opcode follows (R79). -/
  | ext
  /-- No table entry (R86). -/
  | noEntry

/-- `nn = byte2:byte1` (R83): the first byte is the low one. -/
def imm16 (lo hi : Byte) : Word := hi ++ lo

/-- Base opcodes 0x. -/
def baseRow0 : List Entry :=
  [
    .one .nop, .three .ld_BC_nn, .one .ld_mBC_A, .one .inc_BC,
    .one .inc_B, .one .dec_B, .two .ld_B_n, .one .rlca,
    .three .ld_mnn_SP, .one .add_HL_BC, .one .ld_A_mBC, .one .dec_BC,
    .one .inc_C, .one .dec_C, .two .ld_C_n, .one .rrca ]
/-- Base opcodes 1x. -/
def baseRow1 : List Entry :=
  [
    .two .stop, .three .ld_DE_nn, .one .ld_mDE_A, .one .inc_DE,
    .one .inc_D, .one .dec_D, .two .ld_D_n, .one .rla,
    .two .jr_e, .one .add_HL_DE, .one .ld_A_mDE, .one .dec_DE,
    .one .inc_E, .one .dec_E, .two .ld_E_n, .one .rra ]
/-- Base opcodes 2x. -/
def baseRow2 : List Entry :=
  [
    .two .jr_NZ_e, .three .ld_HL_nn, .one .ld_mHLi_A, .one .inc_HL,
    .one .inc_H, .one .dec_H, .two .ld_H_n, .one .daa,
    .two .jr_Z_e, .one .add_HL_HL, .one .ld_A_mHLi, .one .dec_HL,
    .one .inc_L, .one .dec_L, .two .ld_L_n, .one .cpl ]
/-- Base opcodes 3x. -/
def baseRow3 : List Entry :=
  [
    .two .jr_NC_e, .three .ld_SP_nn, .one .ld_mHLd_A, .one .inc_SP,
    .one .inc_mHL, .one .dec_mHL, .two .ld_mHL_n, .one .scf,
    .two .jr_C_e, .one .add_HL_SP, .one .ld_A_mHLd, .one .dec_SP,
    .one .inc_A, .one .dec_A, .two .ld_A_n, .one .ccf ]
/-- Base opcodes 4x. -/
def baseRow4 : List Entry :=
  [
    .one .ld_B_B, .one .ld_B_C, .one .ld_B_D, .one .ld_B_E,
    .one .ld_B_H, .one .ld_B_L, .one .ld_B_mHL, .one .ld_B_A,
    .one .ld_C_B, .one .ld_C_C, .one .ld_C_D, .one .ld_C_E,
    .one .ld_C_H, .one .ld_C_L, .one .ld_C_mHL, .one .ld_C_A ]
/-- Base opcodes 5x. -/
def baseRow5 : List Entry :=
  [
    .one .ld_D_B, .one .ld_D_C, .one .ld_D_D, .one .ld_D_E,
    .one .ld_D_H, .one .ld_D_L, .one .ld_D_mHL, .one .ld_D_A,
    .one .ld_E_B, .one .ld_E_C, .one .ld_E_D, .one .ld_E_E,
    .one .ld_E_H, .one .ld_E_L, .one .ld_E_mHL, .one .ld_E_A ]
/-- Base opcodes 6x. -/
def baseRow6 : List Entry :=
  [
    .one .ld_H_B, .one .ld_H_C, .one .ld_H_D, .one .ld_H_E,
    .one .ld_H_H, .one .ld_H_L, .one .ld_H_mHL, .one .ld_H_A,
    .one .ld_L_B, .one .ld_L_C, .one .ld_L_D, .one .ld_L_E,
    .one .ld_L_H, .one .ld_L_L, .one .ld_L_mHL, .one .ld_L_A ]
/-- Base opcodes 7x. -/
def baseRow7 : List Entry :=
  [
    .one .ld_mHL_B, .one .ld_mHL_C, .one .ld_mHL_D, .one .ld_mHL_E,
    .one .ld_mHL_H, .one .ld_mHL_L, .one .halt, .one .ld_mHL_A,
    .one .ld_A_B, .one .ld_A_C, .one .ld_A_D, .one .ld_A_E,
    .one .ld_A_H, .one .ld_A_L, .one .ld_A_mHL, .one .ld_A_A ]
/-- Base opcodes 8x. -/
def baseRow8 : List Entry :=
  [
    .one .add_A_B, .one .add_A_C, .one .add_A_D, .one .add_A_E,
    .one .add_A_H, .one .add_A_L, .one .add_A_mHL, .one .add_A_A,
    .one .adc_A_B, .one .adc_A_C, .one .adc_A_D, .one .adc_A_E,
    .one .adc_A_H, .one .adc_A_L, .one .adc_A_mHL, .one .adc_A_A ]
/-- Base opcodes 9x. -/
def baseRow9 : List Entry :=
  [
    .one .sub_B, .one .sub_C, .one .sub_D, .one .sub_E,
    .one .sub_H, .one .sub_L, .one .sub_mHL, .one .sub_A,
    .one .sbc_A_B, .one .sbc_A_C, .one .sbc_A_D, .one .sbc_A_E,
    .one .sbc_A_H, .one .sbc_A_L, .one .sbc_A_mHL, .one .sbc_A_A ]
/-- Base opcodes Ax. -/
def baseRowA : List Entry :=
  [
    .one .and_B, .one .and_C, .one .and_D, .one .and_E,
    .one .and_H, .one .and_L, .one .and_mHL, .one .and_A,
    .one .xor_B, .one .xor_C, .one .xor_D, .one .xor_E,
    .one .xor_H, .one .xor_L, .one .xor_mHL, .one .xor_A ]
/-- Base opcodes Bx. -/
def baseRowB : List Entry :=
  [
    .one .or_B, .one .or_C, .one .or_D, .one .or_E,
    .one .or_H, .one .or_L, .one .or_mHL, .one .or_A,
    .one .cp_B, .one .cp_C, .one .cp_D, .one .cp_E,
    .one .cp_H, .one .cp_L, .one .cp_mHL, .one .cp_A ]
/-- Base opcodes Cx. -/
def baseRowC : List Entry :=
  [
    .one .ret_NZ, .one .pop_BC, .three .jp_NZ_nn, .three .jp_nn,
    .three .call_NZ_nn, .one .push_BC, .two .add_A_n, .one .rst_00h,
    .one .ret_Z, .one .ret, .three .jp_Z_nn, .ext,
    .three .call_Z_nn, .three .call_nn, .two .adc_A_n, .one .rst_08h ]
/-- Base opcodes Dx. -/
def baseRowD : List Entry :=
  [
    .one .ret_NC, .one .pop_DE, .three .jp_NC_nn, .noEntry,
    .three .call_NC_nn, .one .push_DE, .two .sub_n, .one .rst_10h,
    .one .ret_C, .one .reti, .three .jp_C_nn, .noEntry,
    .three .call_C_nn, .noEntry, .two .sbc_A_n, .one .rst_18h ]
/-- Base opcodes Ex. -/
def baseRowE : List Entry :=
  [
    .two .ldh_mn_A, .one .pop_HL, .one .ld_mC_A, .noEntry,
    .noEntry, .one .push_HL, .two .and_n, .one .rst_20h,
    .two .add_SP_e, .one .jp_HL, .three .ld_mnn_A, .noEntry,
    .noEntry, .noEntry, .two .xor_n, .one .rst_28h ]
/-- Base opcodes Fx. -/
def baseRowF : List Entry :=
  [
    .two .ldh_A_mn, .one .pop_AF, .one .ld_A_mC, .one .di,
    .noEntry, .one .push_AF, .two .or_n, .one .rst_30h,
    .two .ld_HL_SPe, .one .ld_SP_HL, .three .ld_A_mnn, .one .ei,
    .noEntry, .noEntry, .two .cp_n, .one .rst_38h ]

/-- CB sub-opcodes 0x. -/
def cbRow0 : List Instr :=
  [
    .rlc_B, .rlc_C, .rlc_D, .rlc_E,
    .rlc_H, .rlc_L, .rlc_mHL, .rlc_A,
    .rrc_B, .rrc_C, .rrc_D, .rrc_E,
    .rrc_H, .rrc_L, .rrc_mHL, .rrc_A ]
/-- CB sub-opcodes 1x. -/
def cbRow1 : List Instr :=
  [
    .rl_B, .rl_C, .rl_D, .rl_E,
    .rl_H, .rl_L, .rl_mHL, .rl_A,
    .rr_B, .rr_C, .rr_D, .rr_E,
    .rr_H, .rr_L, .rr_mHL, .rr_A ]
/-- CB sub-opcodes 2x. -/
def cbRow2 : List Instr :=
  [
    .sla_B, .sla_C, .sla_D, .sla_E,
    .sla_H, .sla_L, .sla_mHL, .sla_A,
    .sra_B, .sra_C, .sra_D, .sra_E,
    .sra_H, .sra_L, .sra_mHL, .sra_A ]
/-- CB sub-opcodes 3x. -/
def cbRow3 : List Instr :=
  [
    .swap_B, .swap_C, .swap_D, .swap_E,
    .swap_H, .swap_L, .swap_mHL, .swap_A,
    .srl_B, .srl_C, .srl_D, .srl_E,
    .srl_H, .srl_L, .srl_mHL, .srl_A ]
/-- CB sub-opcodes 4x. -/
def cbRow4 : List Instr :=
  [
    .bit_0_B, .bit_0_C, .bit_0_D, .bit_0_E,
    .bit_0_H, .bit_0_L, .bit_0_mHL, .bit_0_A,
    .bit_1_B, .bit_1_C, .bit_1_D, .bit_1_E,
    .bit_1_H, .bit_1_L, .bit_1_mHL, .bit_1_A ]
/-- CB sub-opcodes 5x. -/
def cbRow5 : List Instr :=
  [
    .bit_2_B, .bit_2_C, .bit_2_D, .bit_2_E,
    .bit_2_H, .bit_2_L, .bit_2_mHL, .bit_2_A,
    .bit_3_B, .bit_3_C, .bit_3_D, .bit_3_E,
    .bit_3_H, .bit_3_L, .bit_3_mHL, .bit_3_A ]
/-- CB sub-opcodes 6x. -/
def cbRow6 : List Instr :=
  [
    .bit_4_B, .bit_4_C, .bit_4_D, .bit_4_E,
    .bit_4_H, .bit_4_L, .bit_4_mHL, .bit_4_A,
    .bit_5_B, .bit_5_C, .bit_5_D, .bit_5_E,
    .bit_5_H, .bit_5_L, .bit_5_mHL, .bit_5_A ]
/-- CB sub-opcodes 7x. -/
def cbRow7 : List Instr :=
  [
    .bit_6_B, .bit_6_C, .bit_6_D, .bit_6_E,
    .bit_6_H, .bit_6_L, .bit_6_mHL, .bit_6_A,
    .bit_7_B, .bit_7_C, .bit_7_D, .bit_7_E,
    .bit_7_H, .bit_7_L, .bit_7_mHL, .bit_7_A ]
/-- CB sub-opcodes 8x. -/
def cbRow8 : List Instr :=
  [
    .res_0_B, .res_0_C, .res_0_D, .res_0_E,
    .res_0_H, .res_0_L, .res_0_mHL, .res_0_A,
    .res_1_B, .res_1_C, .res_1_D, .res_1_E,
    .res_1_H, .res_1_L, .res_1_mHL, .res_1_A ]
/-- CB sub-opcodes 9x. -/
def cbRow9 : List Instr :=
  [
    .res_2_B, .res_2_C, .res_2_D, .res_2_E,
    .res_2_H, .res_2_L, .res_2_mHL, .res_2_A,
    .res_3_B, .res_3_C, .res_3_D, .res_3_E,
    .res_3_H, .res_3_L, .res_3_mHL, .res_3_A ]
/-- CB sub-opcodes Ax. -/
def cbRowA : List Instr :=
  [
    .res_4_B, .res_4_C, .res_4_D, .res_4_E,
    .res_4_H, .res_4_L, .res_4_mHL, .res_4_A,
    .res_5_B, .res_5_C, .res_5_D, .res_5_E,
    .res_5_H, .res_5_L, .res_5_mHL, .res_5_A ]
/-- CB sub-opcodes Bx. -/
def cbRowB : List Instr :=
  [
    .res_6_B, .res_6_C, .res_6_D, .res_6_E,
    .res_6_H, .res_6_L, .res_6_mHL, .res_6_A,
    .res_7_B, .res_7_C, .res_7_D, .res_7_E,
    .res_7_H, .res_7_L, .res_7_mHL, .res_7_A ]
/-- CB sub-opcodes Cx. -/
def cbRowC : List Instr :=
  [
    .set_0_B, .set_0_C, .set_0_D, .set_0_E,
    .set_0_H, .set_0_L, .set_0_mHL, .set_0_A,
    .set_1_B, .set_1_C, .set_1_D, .set_1_E,
    .set_1_H, .set_1_L, .set_1_mHL, .set_1_A ]
/-- CB sub-opcodes Dx. -/
def cbRowD : List Instr :=
  [
    .set_2_B, .set_2_C, .set_2_D, .set_2_E,
    .set_2_H, .set_2_L, .set_2_mHL, .set_2_A,
    .set_3_B, .set_3_C, .set_3_D, .set_3_E,
    .set_3_H, .set_3_L, .set_3_mHL, .set_3_A ]
/-- CB sub-opcodes Ex. -/
def cbRowE : List Instr :=
  [
    .set_4_B, .set_4_C, .set_4_D, .set_4_E,
    .set_4_H, .set_4_L, .set_4_mHL, .set_4_A,
    .set_5_B, .set_5_C, .set_5_D, .set_5_E,
    .set_5_H, .set_5_L, .set_5_mHL, .set_5_A ]
/-- CB sub-opcodes Fx. -/
def cbRowF : List Instr :=
  [
    .set_6_B, .set_6_C, .set_6_D, .set_6_E,
    .set_6_H, .set_6_L, .set_6_mHL, .set_6_A,
    .set_7_B, .set_7_C, .set_7_D, .set_7_E,
    .set_7_H, .set_7_L, .set_7_mHL, .set_7_A ]

/-- The row of a high nibble. -/
def baseRow : Nat → List Entry
  | 0 => baseRow0
  | 1 => baseRow1
  | 2 => baseRow2
  | 3 => baseRow3
  | 4 => baseRow4
  | 5 => baseRow5
  | 6 => baseRow6
  | 7 => baseRow7
  | 8 => baseRow8
  | 9 => baseRow9
  | 10 => baseRowA
  | 11 => baseRowB
  | 12 => baseRowC
  | 13 => baseRowD
  | 14 => baseRowE
  | 15 => baseRowF
  | _ => []

/-- The row of a high nibble. -/
def cbRow : Nat → List Instr
  | 0 => cbRow0
  | 1 => cbRow1
  | 2 => cbRow2
  | 3 => cbRow3
  | 4 => cbRow4
  | 5 => cbRow5
  | 6 => cbRow6
  | 7 => cbRow7
  | 8 => cbRow8
  | 9 => cbRow9
  | 10 => cbRowA
  | 11 => cbRowB
  | 12 => cbRowC
  | 13 => cbRowD
  | 14 => cbRowE
  | 15 => cbRowF
  | _ => []

/-- The base table (R84). -/
def baseEntry (op : Byte) : Entry := (baseRow (op.toNat / 16)).getD (op.toNat % 16) .noEntry

/-- The extended table (R85); it is full (R80), so the default is never taken. -/
def cbEntry (sub : Byte) : Instr := (cbRow (sub.toNat / 16)).getD (sub.toNat % 16) (.prefix_CB sub)

/-- The instruction whose first byte is `op` and whose following bytes, as far as it has them, are `b1` and `b2`; with its
length in bytes (R88). A byte without an entry is `no_entry`, and nothing after it is read (40_dispatch.md R102). -/
def decode3 (op b1 b2 : Byte) : Instr × Nat :=
  match baseEntry op with
  | .one i => (i, 1)
  | .two f => (f b1, 2)
  | .three f => (f (imm16 b1 b2), 3)
  | .ext => (cbEntry b1, 2)
  | .noEntry => (.no_entry op, 1)

/-- Why a list of bytes gives no instruction. -/
inductive DecodeError where
  /-- The list ends before the instruction does. -/
  | outOfBytes
  deriving DecidableEq, Repr

/-- The instruction at the head of a list of bytes, and the bytes after it. -/
def decode : List Byte → Except DecodeError (Instr × List Byte)
  | [] => .error .outOfBytes
  | op :: rest =>
    let (i, len) := decode3 op (rest.getD 0 0) (rest.getD 1 0)
    if len ≤ rest.length + 1 then .ok (i, rest.drop (len - 1)) else .error .outOfBytes

/-- The three bytes, in address order, of an instruction given as a number with its bits numbered as
spec/opcode_table.json numbers them (log entry 8): a base row's opcode is bits 7:0 and the bytes after it follow upwards; a
CB row is the 16-bit number `0xCB * 256 + s` (30_encoding.md R92), so there the prefix is bits 15:8. -/
def tableBytes (nbits w : Nat) : Byte × Byte × Byte :=
  if nbits = 16 ∧ w / 256 = 0xCB then (0xCB, BitVec.ofNat 8 w, 0)
  else (BitVec.ofNat 8 w, BitVec.ofNat 8 (w / 256), BitVec.ofNat 8 (w / 65536))

/-- The instruction the decoder reads from such a number; the bits above `nbits` are zero. -/
def decodeTableWord (nbits w : Nat) : Option Instr :=
  let (b0, b1, b2) := tableBytes nbits (w % 2 ^ nbits)
  match decode [b0, b1, b2] with
  | .ok (i, _) => some i
  | .error _ => none

/-- The low byte of `nn`, stored first (R83). -/
def immLo (nn : Word) : Byte := nn.extractLsb' 0 8
/-- The high byte of `nn`. -/
def immHi (nn : Word) : Byte := nn.extractLsb' 8 8

/-- An instruction's bytes, in address order (R71, R84, R85). -/
def encode : Instr → List Byte
  | .nop => [0x00]
  | .ld_BC_nn nn => [0x01, immLo nn, immHi nn]
  | .ld_mBC_A => [0x02]
  | .inc_BC => [0x03]
  | .inc_B => [0x04]
  | .dec_B => [0x05]
  | .ld_B_n n => [0x06, n]
  | .rlca => [0x07]
  | .ld_mnn_SP nn => [0x08, immLo nn, immHi nn]
  | .add_HL_BC => [0x09]
  | .ld_A_mBC => [0x0A]
  | .dec_BC => [0x0B]
  | .inc_C => [0x0C]
  | .dec_C => [0x0D]
  | .ld_C_n n => [0x0E, n]
  | .rrca => [0x0F]
  | .stop x => [0x10, x]
  | .ld_DE_nn nn => [0x11, immLo nn, immHi nn]
  | .ld_mDE_A => [0x12]
  | .inc_DE => [0x13]
  | .inc_D => [0x14]
  | .dec_D => [0x15]
  | .ld_D_n n => [0x16, n]
  | .rla => [0x17]
  | .jr_e e => [0x18, e]
  | .add_HL_DE => [0x19]
  | .ld_A_mDE => [0x1A]
  | .dec_DE => [0x1B]
  | .inc_E => [0x1C]
  | .dec_E => [0x1D]
  | .ld_E_n n => [0x1E, n]
  | .rra => [0x1F]
  | .jr_NZ_e e => [0x20, e]
  | .ld_HL_nn nn => [0x21, immLo nn, immHi nn]
  | .ld_mHLi_A => [0x22]
  | .inc_HL => [0x23]
  | .inc_H => [0x24]
  | .dec_H => [0x25]
  | .ld_H_n n => [0x26, n]
  | .daa => [0x27]
  | .jr_Z_e e => [0x28, e]
  | .add_HL_HL => [0x29]
  | .ld_A_mHLi => [0x2A]
  | .dec_HL => [0x2B]
  | .inc_L => [0x2C]
  | .dec_L => [0x2D]
  | .ld_L_n n => [0x2E, n]
  | .cpl => [0x2F]
  | .jr_NC_e e => [0x30, e]
  | .ld_SP_nn nn => [0x31, immLo nn, immHi nn]
  | .ld_mHLd_A => [0x32]
  | .inc_SP => [0x33]
  | .inc_mHL => [0x34]
  | .dec_mHL => [0x35]
  | .ld_mHL_n n => [0x36, n]
  | .scf => [0x37]
  | .jr_C_e e => [0x38, e]
  | .add_HL_SP => [0x39]
  | .ld_A_mHLd => [0x3A]
  | .dec_SP => [0x3B]
  | .inc_A => [0x3C]
  | .dec_A => [0x3D]
  | .ld_A_n n => [0x3E, n]
  | .ccf => [0x3F]
  | .ld_B_B => [0x40]
  | .ld_B_C => [0x41]
  | .ld_B_D => [0x42]
  | .ld_B_E => [0x43]
  | .ld_B_H => [0x44]
  | .ld_B_L => [0x45]
  | .ld_B_mHL => [0x46]
  | .ld_B_A => [0x47]
  | .ld_C_B => [0x48]
  | .ld_C_C => [0x49]
  | .ld_C_D => [0x4A]
  | .ld_C_E => [0x4B]
  | .ld_C_H => [0x4C]
  | .ld_C_L => [0x4D]
  | .ld_C_mHL => [0x4E]
  | .ld_C_A => [0x4F]
  | .ld_D_B => [0x50]
  | .ld_D_C => [0x51]
  | .ld_D_D => [0x52]
  | .ld_D_E => [0x53]
  | .ld_D_H => [0x54]
  | .ld_D_L => [0x55]
  | .ld_D_mHL => [0x56]
  | .ld_D_A => [0x57]
  | .ld_E_B => [0x58]
  | .ld_E_C => [0x59]
  | .ld_E_D => [0x5A]
  | .ld_E_E => [0x5B]
  | .ld_E_H => [0x5C]
  | .ld_E_L => [0x5D]
  | .ld_E_mHL => [0x5E]
  | .ld_E_A => [0x5F]
  | .ld_H_B => [0x60]
  | .ld_H_C => [0x61]
  | .ld_H_D => [0x62]
  | .ld_H_E => [0x63]
  | .ld_H_H => [0x64]
  | .ld_H_L => [0x65]
  | .ld_H_mHL => [0x66]
  | .ld_H_A => [0x67]
  | .ld_L_B => [0x68]
  | .ld_L_C => [0x69]
  | .ld_L_D => [0x6A]
  | .ld_L_E => [0x6B]
  | .ld_L_H => [0x6C]
  | .ld_L_L => [0x6D]
  | .ld_L_mHL => [0x6E]
  | .ld_L_A => [0x6F]
  | .ld_mHL_B => [0x70]
  | .ld_mHL_C => [0x71]
  | .ld_mHL_D => [0x72]
  | .ld_mHL_E => [0x73]
  | .ld_mHL_H => [0x74]
  | .ld_mHL_L => [0x75]
  | .halt => [0x76]
  | .ld_mHL_A => [0x77]
  | .ld_A_B => [0x78]
  | .ld_A_C => [0x79]
  | .ld_A_D => [0x7A]
  | .ld_A_E => [0x7B]
  | .ld_A_H => [0x7C]
  | .ld_A_L => [0x7D]
  | .ld_A_mHL => [0x7E]
  | .ld_A_A => [0x7F]
  | .add_A_B => [0x80]
  | .add_A_C => [0x81]
  | .add_A_D => [0x82]
  | .add_A_E => [0x83]
  | .add_A_H => [0x84]
  | .add_A_L => [0x85]
  | .add_A_mHL => [0x86]
  | .add_A_A => [0x87]
  | .adc_A_B => [0x88]
  | .adc_A_C => [0x89]
  | .adc_A_D => [0x8A]
  | .adc_A_E => [0x8B]
  | .adc_A_H => [0x8C]
  | .adc_A_L => [0x8D]
  | .adc_A_mHL => [0x8E]
  | .adc_A_A => [0x8F]
  | .sub_B => [0x90]
  | .sub_C => [0x91]
  | .sub_D => [0x92]
  | .sub_E => [0x93]
  | .sub_H => [0x94]
  | .sub_L => [0x95]
  | .sub_mHL => [0x96]
  | .sub_A => [0x97]
  | .sbc_A_B => [0x98]
  | .sbc_A_C => [0x99]
  | .sbc_A_D => [0x9A]
  | .sbc_A_E => [0x9B]
  | .sbc_A_H => [0x9C]
  | .sbc_A_L => [0x9D]
  | .sbc_A_mHL => [0x9E]
  | .sbc_A_A => [0x9F]
  | .and_B => [0xA0]
  | .and_C => [0xA1]
  | .and_D => [0xA2]
  | .and_E => [0xA3]
  | .and_H => [0xA4]
  | .and_L => [0xA5]
  | .and_mHL => [0xA6]
  | .and_A => [0xA7]
  | .xor_B => [0xA8]
  | .xor_C => [0xA9]
  | .xor_D => [0xAA]
  | .xor_E => [0xAB]
  | .xor_H => [0xAC]
  | .xor_L => [0xAD]
  | .xor_mHL => [0xAE]
  | .xor_A => [0xAF]
  | .or_B => [0xB0]
  | .or_C => [0xB1]
  | .or_D => [0xB2]
  | .or_E => [0xB3]
  | .or_H => [0xB4]
  | .or_L => [0xB5]
  | .or_mHL => [0xB6]
  | .or_A => [0xB7]
  | .cp_B => [0xB8]
  | .cp_C => [0xB9]
  | .cp_D => [0xBA]
  | .cp_E => [0xBB]
  | .cp_H => [0xBC]
  | .cp_L => [0xBD]
  | .cp_mHL => [0xBE]
  | .cp_A => [0xBF]
  | .ret_NZ => [0xC0]
  | .pop_BC => [0xC1]
  | .jp_NZ_nn nn => [0xC2, immLo nn, immHi nn]
  | .jp_nn nn => [0xC3, immLo nn, immHi nn]
  | .call_NZ_nn nn => [0xC4, immLo nn, immHi nn]
  | .push_BC => [0xC5]
  | .add_A_n n => [0xC6, n]
  | .rst_00h => [0xC7]
  | .ret_Z => [0xC8]
  | .ret => [0xC9]
  | .jp_Z_nn nn => [0xCA, immLo nn, immHi nn]
  | .prefix_CB sub => [0xCB, sub]
  | .call_Z_nn nn => [0xCC, immLo nn, immHi nn]
  | .call_nn nn => [0xCD, immLo nn, immHi nn]
  | .adc_A_n n => [0xCE, n]
  | .rst_08h => [0xCF]
  | .ret_NC => [0xD0]
  | .pop_DE => [0xD1]
  | .jp_NC_nn nn => [0xD2, immLo nn, immHi nn]
  | .no_entry op => [op]
  | .call_NC_nn nn => [0xD4, immLo nn, immHi nn]
  | .push_DE => [0xD5]
  | .sub_n n => [0xD6, n]
  | .rst_10h => [0xD7]
  | .ret_C => [0xD8]
  | .reti => [0xD9]
  | .jp_C_nn nn => [0xDA, immLo nn, immHi nn]
  | .call_C_nn nn => [0xDC, immLo nn, immHi nn]
  | .sbc_A_n n => [0xDE, n]
  | .rst_18h => [0xDF]
  | .ldh_mn_A n => [0xE0, n]
  | .pop_HL => [0xE1]
  | .ld_mC_A => [0xE2]
  | .push_HL => [0xE5]
  | .and_n n => [0xE6, n]
  | .rst_20h => [0xE7]
  | .add_SP_e e => [0xE8, e]
  | .jp_HL => [0xE9]
  | .ld_mnn_A nn => [0xEA, immLo nn, immHi nn]
  | .xor_n n => [0xEE, n]
  | .rst_28h => [0xEF]
  | .ldh_A_mn n => [0xF0, n]
  | .pop_AF => [0xF1]
  | .ld_A_mC => [0xF2]
  | .di => [0xF3]
  | .push_AF => [0xF5]
  | .or_n n => [0xF6, n]
  | .rst_30h => [0xF7]
  | .ld_HL_SPe e => [0xF8, e]
  | .ld_SP_HL => [0xF9]
  | .ld_A_mnn nn => [0xFA, immLo nn, immHi nn]
  | .ei => [0xFB]
  | .cp_n n => [0xFE, n]
  | .rst_38h => [0xFF]
  | .rlc_B => [0xCB, 0x00]
  | .rlc_C => [0xCB, 0x01]
  | .rlc_D => [0xCB, 0x02]
  | .rlc_E => [0xCB, 0x03]
  | .rlc_H => [0xCB, 0x04]
  | .rlc_L => [0xCB, 0x05]
  | .rlc_mHL => [0xCB, 0x06]
  | .rlc_A => [0xCB, 0x07]
  | .rrc_B => [0xCB, 0x08]
  | .rrc_C => [0xCB, 0x09]
  | .rrc_D => [0xCB, 0x0A]
  | .rrc_E => [0xCB, 0x0B]
  | .rrc_H => [0xCB, 0x0C]
  | .rrc_L => [0xCB, 0x0D]
  | .rrc_mHL => [0xCB, 0x0E]
  | .rrc_A => [0xCB, 0x0F]
  | .rl_B => [0xCB, 0x10]
  | .rl_C => [0xCB, 0x11]
  | .rl_D => [0xCB, 0x12]
  | .rl_E => [0xCB, 0x13]
  | .rl_H => [0xCB, 0x14]
  | .rl_L => [0xCB, 0x15]
  | .rl_mHL => [0xCB, 0x16]
  | .rl_A => [0xCB, 0x17]
  | .rr_B => [0xCB, 0x18]
  | .rr_C => [0xCB, 0x19]
  | .rr_D => [0xCB, 0x1A]
  | .rr_E => [0xCB, 0x1B]
  | .rr_H => [0xCB, 0x1C]
  | .rr_L => [0xCB, 0x1D]
  | .rr_mHL => [0xCB, 0x1E]
  | .rr_A => [0xCB, 0x1F]
  | .sla_B => [0xCB, 0x20]
  | .sla_C => [0xCB, 0x21]
  | .sla_D => [0xCB, 0x22]
  | .sla_E => [0xCB, 0x23]
  | .sla_H => [0xCB, 0x24]
  | .sla_L => [0xCB, 0x25]
  | .sla_mHL => [0xCB, 0x26]
  | .sla_A => [0xCB, 0x27]
  | .sra_B => [0xCB, 0x28]
  | .sra_C => [0xCB, 0x29]
  | .sra_D => [0xCB, 0x2A]
  | .sra_E => [0xCB, 0x2B]
  | .sra_H => [0xCB, 0x2C]
  | .sra_L => [0xCB, 0x2D]
  | .sra_mHL => [0xCB, 0x2E]
  | .sra_A => [0xCB, 0x2F]
  | .swap_B => [0xCB, 0x30]
  | .swap_C => [0xCB, 0x31]
  | .swap_D => [0xCB, 0x32]
  | .swap_E => [0xCB, 0x33]
  | .swap_H => [0xCB, 0x34]
  | .swap_L => [0xCB, 0x35]
  | .swap_mHL => [0xCB, 0x36]
  | .swap_A => [0xCB, 0x37]
  | .srl_B => [0xCB, 0x38]
  | .srl_C => [0xCB, 0x39]
  | .srl_D => [0xCB, 0x3A]
  | .srl_E => [0xCB, 0x3B]
  | .srl_H => [0xCB, 0x3C]
  | .srl_L => [0xCB, 0x3D]
  | .srl_mHL => [0xCB, 0x3E]
  | .srl_A => [0xCB, 0x3F]
  | .bit_0_B => [0xCB, 0x40]
  | .bit_0_C => [0xCB, 0x41]
  | .bit_0_D => [0xCB, 0x42]
  | .bit_0_E => [0xCB, 0x43]
  | .bit_0_H => [0xCB, 0x44]
  | .bit_0_L => [0xCB, 0x45]
  | .bit_0_mHL => [0xCB, 0x46]
  | .bit_0_A => [0xCB, 0x47]
  | .bit_1_B => [0xCB, 0x48]
  | .bit_1_C => [0xCB, 0x49]
  | .bit_1_D => [0xCB, 0x4A]
  | .bit_1_E => [0xCB, 0x4B]
  | .bit_1_H => [0xCB, 0x4C]
  | .bit_1_L => [0xCB, 0x4D]
  | .bit_1_mHL => [0xCB, 0x4E]
  | .bit_1_A => [0xCB, 0x4F]
  | .bit_2_B => [0xCB, 0x50]
  | .bit_2_C => [0xCB, 0x51]
  | .bit_2_D => [0xCB, 0x52]
  | .bit_2_E => [0xCB, 0x53]
  | .bit_2_H => [0xCB, 0x54]
  | .bit_2_L => [0xCB, 0x55]
  | .bit_2_mHL => [0xCB, 0x56]
  | .bit_2_A => [0xCB, 0x57]
  | .bit_3_B => [0xCB, 0x58]
  | .bit_3_C => [0xCB, 0x59]
  | .bit_3_D => [0xCB, 0x5A]
  | .bit_3_E => [0xCB, 0x5B]
  | .bit_3_H => [0xCB, 0x5C]
  | .bit_3_L => [0xCB, 0x5D]
  | .bit_3_mHL => [0xCB, 0x5E]
  | .bit_3_A => [0xCB, 0x5F]
  | .bit_4_B => [0xCB, 0x60]
  | .bit_4_C => [0xCB, 0x61]
  | .bit_4_D => [0xCB, 0x62]
  | .bit_4_E => [0xCB, 0x63]
  | .bit_4_H => [0xCB, 0x64]
  | .bit_4_L => [0xCB, 0x65]
  | .bit_4_mHL => [0xCB, 0x66]
  | .bit_4_A => [0xCB, 0x67]
  | .bit_5_B => [0xCB, 0x68]
  | .bit_5_C => [0xCB, 0x69]
  | .bit_5_D => [0xCB, 0x6A]
  | .bit_5_E => [0xCB, 0x6B]
  | .bit_5_H => [0xCB, 0x6C]
  | .bit_5_L => [0xCB, 0x6D]
  | .bit_5_mHL => [0xCB, 0x6E]
  | .bit_5_A => [0xCB, 0x6F]
  | .bit_6_B => [0xCB, 0x70]
  | .bit_6_C => [0xCB, 0x71]
  | .bit_6_D => [0xCB, 0x72]
  | .bit_6_E => [0xCB, 0x73]
  | .bit_6_H => [0xCB, 0x74]
  | .bit_6_L => [0xCB, 0x75]
  | .bit_6_mHL => [0xCB, 0x76]
  | .bit_6_A => [0xCB, 0x77]
  | .bit_7_B => [0xCB, 0x78]
  | .bit_7_C => [0xCB, 0x79]
  | .bit_7_D => [0xCB, 0x7A]
  | .bit_7_E => [0xCB, 0x7B]
  | .bit_7_H => [0xCB, 0x7C]
  | .bit_7_L => [0xCB, 0x7D]
  | .bit_7_mHL => [0xCB, 0x7E]
  | .bit_7_A => [0xCB, 0x7F]
  | .res_0_B => [0xCB, 0x80]
  | .res_0_C => [0xCB, 0x81]
  | .res_0_D => [0xCB, 0x82]
  | .res_0_E => [0xCB, 0x83]
  | .res_0_H => [0xCB, 0x84]
  | .res_0_L => [0xCB, 0x85]
  | .res_0_mHL => [0xCB, 0x86]
  | .res_0_A => [0xCB, 0x87]
  | .res_1_B => [0xCB, 0x88]
  | .res_1_C => [0xCB, 0x89]
  | .res_1_D => [0xCB, 0x8A]
  | .res_1_E => [0xCB, 0x8B]
  | .res_1_H => [0xCB, 0x8C]
  | .res_1_L => [0xCB, 0x8D]
  | .res_1_mHL => [0xCB, 0x8E]
  | .res_1_A => [0xCB, 0x8F]
  | .res_2_B => [0xCB, 0x90]
  | .res_2_C => [0xCB, 0x91]
  | .res_2_D => [0xCB, 0x92]
  | .res_2_E => [0xCB, 0x93]
  | .res_2_H => [0xCB, 0x94]
  | .res_2_L => [0xCB, 0x95]
  | .res_2_mHL => [0xCB, 0x96]
  | .res_2_A => [0xCB, 0x97]
  | .res_3_B => [0xCB, 0x98]
  | .res_3_C => [0xCB, 0x99]
  | .res_3_D => [0xCB, 0x9A]
  | .res_3_E => [0xCB, 0x9B]
  | .res_3_H => [0xCB, 0x9C]
  | .res_3_L => [0xCB, 0x9D]
  | .res_3_mHL => [0xCB, 0x9E]
  | .res_3_A => [0xCB, 0x9F]
  | .res_4_B => [0xCB, 0xA0]
  | .res_4_C => [0xCB, 0xA1]
  | .res_4_D => [0xCB, 0xA2]
  | .res_4_E => [0xCB, 0xA3]
  | .res_4_H => [0xCB, 0xA4]
  | .res_4_L => [0xCB, 0xA5]
  | .res_4_mHL => [0xCB, 0xA6]
  | .res_4_A => [0xCB, 0xA7]
  | .res_5_B => [0xCB, 0xA8]
  | .res_5_C => [0xCB, 0xA9]
  | .res_5_D => [0xCB, 0xAA]
  | .res_5_E => [0xCB, 0xAB]
  | .res_5_H => [0xCB, 0xAC]
  | .res_5_L => [0xCB, 0xAD]
  | .res_5_mHL => [0xCB, 0xAE]
  | .res_5_A => [0xCB, 0xAF]
  | .res_6_B => [0xCB, 0xB0]
  | .res_6_C => [0xCB, 0xB1]
  | .res_6_D => [0xCB, 0xB2]
  | .res_6_E => [0xCB, 0xB3]
  | .res_6_H => [0xCB, 0xB4]
  | .res_6_L => [0xCB, 0xB5]
  | .res_6_mHL => [0xCB, 0xB6]
  | .res_6_A => [0xCB, 0xB7]
  | .res_7_B => [0xCB, 0xB8]
  | .res_7_C => [0xCB, 0xB9]
  | .res_7_D => [0xCB, 0xBA]
  | .res_7_E => [0xCB, 0xBB]
  | .res_7_H => [0xCB, 0xBC]
  | .res_7_L => [0xCB, 0xBD]
  | .res_7_mHL => [0xCB, 0xBE]
  | .res_7_A => [0xCB, 0xBF]
  | .set_0_B => [0xCB, 0xC0]
  | .set_0_C => [0xCB, 0xC1]
  | .set_0_D => [0xCB, 0xC2]
  | .set_0_E => [0xCB, 0xC3]
  | .set_0_H => [0xCB, 0xC4]
  | .set_0_L => [0xCB, 0xC5]
  | .set_0_mHL => [0xCB, 0xC6]
  | .set_0_A => [0xCB, 0xC7]
  | .set_1_B => [0xCB, 0xC8]
  | .set_1_C => [0xCB, 0xC9]
  | .set_1_D => [0xCB, 0xCA]
  | .set_1_E => [0xCB, 0xCB]
  | .set_1_H => [0xCB, 0xCC]
  | .set_1_L => [0xCB, 0xCD]
  | .set_1_mHL => [0xCB, 0xCE]
  | .set_1_A => [0xCB, 0xCF]
  | .set_2_B => [0xCB, 0xD0]
  | .set_2_C => [0xCB, 0xD1]
  | .set_2_D => [0xCB, 0xD2]
  | .set_2_E => [0xCB, 0xD3]
  | .set_2_H => [0xCB, 0xD4]
  | .set_2_L => [0xCB, 0xD5]
  | .set_2_mHL => [0xCB, 0xD6]
  | .set_2_A => [0xCB, 0xD7]
  | .set_3_B => [0xCB, 0xD8]
  | .set_3_C => [0xCB, 0xD9]
  | .set_3_D => [0xCB, 0xDA]
  | .set_3_E => [0xCB, 0xDB]
  | .set_3_H => [0xCB, 0xDC]
  | .set_3_L => [0xCB, 0xDD]
  | .set_3_mHL => [0xCB, 0xDE]
  | .set_3_A => [0xCB, 0xDF]
  | .set_4_B => [0xCB, 0xE0]
  | .set_4_C => [0xCB, 0xE1]
  | .set_4_D => [0xCB, 0xE2]
  | .set_4_E => [0xCB, 0xE3]
  | .set_4_H => [0xCB, 0xE4]
  | .set_4_L => [0xCB, 0xE5]
  | .set_4_mHL => [0xCB, 0xE6]
  | .set_4_A => [0xCB, 0xE7]
  | .set_5_B => [0xCB, 0xE8]
  | .set_5_C => [0xCB, 0xE9]
  | .set_5_D => [0xCB, 0xEA]
  | .set_5_E => [0xCB, 0xEB]
  | .set_5_H => [0xCB, 0xEC]
  | .set_5_L => [0xCB, 0xED]
  | .set_5_mHL => [0xCB, 0xEE]
  | .set_5_A => [0xCB, 0xEF]
  | .set_6_B => [0xCB, 0xF0]
  | .set_6_C => [0xCB, 0xF1]
  | .set_6_D => [0xCB, 0xF2]
  | .set_6_E => [0xCB, 0xF3]
  | .set_6_H => [0xCB, 0xF4]
  | .set_6_L => [0xCB, 0xF5]
  | .set_6_mHL => [0xCB, 0xF6]
  | .set_6_A => [0xCB, 0xF7]
  | .set_7_B => [0xCB, 0xF8]
  | .set_7_C => [0xCB, 0xF9]
  | .set_7_D => [0xCB, 0xFA]
  | .set_7_E => [0xCB, 0xFB]
  | .set_7_H => [0xCB, 0xFC]
  | .set_7_L => [0xCB, 0xFD]
  | .set_7_mHL => [0xCB, 0xFE]
  | .set_7_A => [0xCB, 0xFF]

/-- The code of a register in the `r` field (R73). -/
def Reg8.code : Reg8 → BitVec 3
  | .b => 0b000
  | .c => 0b001
  | .d => 0b010
  | .e => 0b011
  | .h => 0b100
  | .l => 0b101
  | .a => 0b111

/-- The code of an operand in the `r` field (R73). -/
def Operand.code : Operand → BitVec 3
  | .reg r => r.code
  | .atHL => 0b110

/-- The code of a pair in the `dd` field (R74). -/
def PairSP.code : PairSP → BitVec 2
  | .bc => 0b00
  | .de => 0b01
  | .hl => 0b10
  | .sp => 0b11

/-- The code of a pair in the `qq` field (R76). -/
def PairAF.code : PairAF → BitVec 2
  | .bc => 0b00
  | .de => 0b01
  | .hl => 0b10
  | .af => 0b11

/-- The code of a condition in the `cc` field (R75). -/
def Cond.code : Cond → BitVec 2
  | .nz => 0b00
  | .z => 0b01
  | .nc => 0b10
  | .c => 0b11

/-- The code of an operation in the `alu` field (R77). -/
def AluOp.code : AluOp → BitVec 3
  | .add => 0b000
  | .adc => 0b001
  | .sub => 0b010
  | .sbc => 0b011
  | .and => 0b100
  | .xor => 0b101
  | .or => 0b110
  | .cp => 0b111

/-- The code of an operation in the `y` field of the CB group `g = 00` (R80). -/
def ShiftOp.code : ShiftOp → BitVec 3
  | .rlc => 0b000
  | .rrc => 0b001
  | .rl => 0b010
  | .rr => 0b011
  | .sla => 0b100
  | .sra => 0b101
  | .swap => 0b110
  | .srl => 0b111

/-- A 3-bit number as a field. -/
def Index3.code (i : Index3) : BitVec 3 := BitVec.ofNat 3 i.val

/-- The operand an `r` field names (R73). -/
def operandOf (r : BitVec 3) : Operand :=
  match r.toNat with
  | 0 => .reg .b
  | 1 => .reg .c
  | 2 => .reg .d
  | 3 => .reg .e
  | 4 => .reg .h
  | 5 => .reg .l
  | 6 => .atHL
  | _ => .reg .a

/-- The operation a `y` field names in the CB group `g = 00` (R80). -/
def shiftOpOf (y : BitVec 3) : ShiftOp :=
  match y.toNat with
  | 0 => .rlc
  | 1 => .rrc
  | 2 => .rl
  | 3 => .rr
  | 4 => .sla
  | 5 => .sra
  | 6 => .swap
  | _ => .srl

/-- The number a 3-bit field holds. -/
def indexOf (y : BitVec 3) : Index3 :=
  match y.toNat with
  | 0 => .i0
  | 1 => .i1
  | 2 => .i2
  | 3 => .i3
  | 4 => .i4
  | 5 => .i5
  | 6 => .i6
  | _ => .i7

end Sys2Proof
end

