-- ==== Sys2Proof/Machine/CbPrefix.lean ====
section
/-! DEFINITION. The CB-prefixed instructions (49_cb_prefix.md R270 to R292). -/

namespace Sys2Proof.Machine

/-- A rotate or shift of a register. -/
def shiftReg (op : ShiftOp) (r : Reg8) (s : State) : Result :=
  .next ((s.setReg r (evalShift op (s.reg r) (flagC s.f)).1).setF (evalShift op (s.reg r) (flagC s.f)).2)

/-- A rotate or shift of the byte at (HL): read, store, then F, so a faulting store leaves F (R272). -/
def shiftMem (op : ShiftOp) (s : State) : Result :=
  store s.hl (evalShift op (s.mem.read s.hl) (flagC s.f)).1 s fun t =>
    .next (t.setF (evalShift op (s.mem.read s.hl) (flagC s.f)).2)

/-- BIT b (R287, R288): F alone is written. -/
def bitTest (i : Index3) (v : Byte) (s : State) : Result := .next (s.setF (bitF v i s.f))

/-- RES b,r and SET b,r (R289, R291): no flag is written. -/
def loadBitReg (v : Byte) (r : Reg8) (s : State) : Result := .next (s.setReg r v)

/-- RES b,(HL) (R290). -/
def resMem (i : Index3) (s : State) : Result := store s.hl (resBit (s.mem.read s.hl) i) s .next

/-- SET b,(HL) (R292). -/
def setMem (i : Index3) (s : State) : Result := store s.hl (setBit (s.mem.read s.hl) i) s .next

/-- The CB dispatch by the fields `g = s[7:6]`, `y = s[5:3]` and `z = s[2:0]` (R270, R80). -/
def cbOperation (sub : Byte) (s : State) : Result :=
  let g := sub.extractLsb' 6 2
  let y := sub.extractLsb' 3 3
  let o := operandOf (sub.extractLsb' 0 3)
  match g.toNat, o with
  | 0, .reg r => shiftReg (shiftOpOf y) r s
  | 0, .atHL => shiftMem (shiftOpOf y) s
  | 1, o => bitTest (indexOf y) (s.operand o) s
  | 2, .reg r => loadBitReg (resBit (s.reg r) (indexOf y)) r s
  | 2, .atHL => resMem (indexOf y) s
  | _, .reg r => loadBitReg (setBit (s.reg r) (indexOf y)) r s
  | _, .atHL => setMem (indexOf y) s

/-- R270: prefix CB. -/
def execPrefix_CB (sub : Byte) (s : State) : Result := cbOperation sub s

/-- R271: RLC B. -/
def execRlc_B (s : State) : Result := shiftReg .rlc .b s

/-- R271: RLC C. -/
def execRlc_C (s : State) : Result := shiftReg .rlc .c s

/-- R271: RLC D. -/
def execRlc_D (s : State) : Result := shiftReg .rlc .d s

/-- R271: RLC E. -/
def execRlc_E (s : State) : Result := shiftReg .rlc .e s

/-- R271: RLC H. -/
def execRlc_H (s : State) : Result := shiftReg .rlc .h s

/-- R271: RLC L. -/
def execRlc_L (s : State) : Result := shiftReg .rlc .l s

/-- R272: RLC (HL). -/
def execRlc_mHL (s : State) : Result := shiftMem .rlc s

/-- R271: RLC A. -/
def execRlc_A (s : State) : Result := shiftReg .rlc .a s

/-- R273: RRC B. -/
def execRrc_B (s : State) : Result := shiftReg .rrc .b s

/-- R273: RRC C. -/
def execRrc_C (s : State) : Result := shiftReg .rrc .c s

/-- R273: RRC D. -/
def execRrc_D (s : State) : Result := shiftReg .rrc .d s

/-- R273: RRC E. -/
def execRrc_E (s : State) : Result := shiftReg .rrc .e s

/-- R273: RRC H. -/
def execRrc_H (s : State) : Result := shiftReg .rrc .h s

/-- R273: RRC L. -/
def execRrc_L (s : State) : Result := shiftReg .rrc .l s

/-- R274: RRC (HL). -/
def execRrc_mHL (s : State) : Result := shiftMem .rrc s

/-- R273: RRC A. -/
def execRrc_A (s : State) : Result := shiftReg .rrc .a s

/-- R275: RL B. -/
def execRl_B (s : State) : Result := shiftReg .rl .b s

/-- R275: RL C. -/
def execRl_C (s : State) : Result := shiftReg .rl .c s

/-- R275: RL D. -/
def execRl_D (s : State) : Result := shiftReg .rl .d s

/-- R275: RL E. -/
def execRl_E (s : State) : Result := shiftReg .rl .e s

/-- R275: RL H. -/
def execRl_H (s : State) : Result := shiftReg .rl .h s

/-- R275: RL L. -/
def execRl_L (s : State) : Result := shiftReg .rl .l s

/-- R276: RL (HL). -/
def execRl_mHL (s : State) : Result := shiftMem .rl s

/-- R275: RL A. -/
def execRl_A (s : State) : Result := shiftReg .rl .a s

/-- R277: RR B. -/
def execRr_B (s : State) : Result := shiftReg .rr .b s

/-- R277: RR C. -/
def execRr_C (s : State) : Result := shiftReg .rr .c s

/-- R277: RR D. -/
def execRr_D (s : State) : Result := shiftReg .rr .d s

/-- R277: RR E. -/
def execRr_E (s : State) : Result := shiftReg .rr .e s

/-- R277: RR H. -/
def execRr_H (s : State) : Result := shiftReg .rr .h s

/-- R277: RR L. -/
def execRr_L (s : State) : Result := shiftReg .rr .l s

/-- R278: RR (HL). -/
def execRr_mHL (s : State) : Result := shiftMem .rr s

/-- R277: RR A. -/
def execRr_A (s : State) : Result := shiftReg .rr .a s

/-- R279: SLA B. -/
def execSla_B (s : State) : Result := shiftReg .sla .b s

/-- R279: SLA C. -/
def execSla_C (s : State) : Result := shiftReg .sla .c s

/-- R279: SLA D. -/
def execSla_D (s : State) : Result := shiftReg .sla .d s

/-- R279: SLA E. -/
def execSla_E (s : State) : Result := shiftReg .sla .e s

/-- R279: SLA H. -/
def execSla_H (s : State) : Result := shiftReg .sla .h s

/-- R279: SLA L. -/
def execSla_L (s : State) : Result := shiftReg .sla .l s

/-- R280: SLA (HL). -/
def execSla_mHL (s : State) : Result := shiftMem .sla s

/-- R279: SLA A. -/
def execSla_A (s : State) : Result := shiftReg .sla .a s

/-- R281: SRA B. -/
def execSra_B (s : State) : Result := shiftReg .sra .b s

/-- R281: SRA C. -/
def execSra_C (s : State) : Result := shiftReg .sra .c s

/-- R281: SRA D. -/
def execSra_D (s : State) : Result := shiftReg .sra .d s

/-- R281: SRA E. -/
def execSra_E (s : State) : Result := shiftReg .sra .e s

/-- R281: SRA H. -/
def execSra_H (s : State) : Result := shiftReg .sra .h s

/-- R281: SRA L. -/
def execSra_L (s : State) : Result := shiftReg .sra .l s

/-- R282: SRA (HL). -/
def execSra_mHL (s : State) : Result := shiftMem .sra s

/-- R281: SRA A. -/
def execSra_A (s : State) : Result := shiftReg .sra .a s

/-- R283: SWAP B. -/
def execSwap_B (s : State) : Result := shiftReg .swap .b s

/-- R283: SWAP C. -/
def execSwap_C (s : State) : Result := shiftReg .swap .c s

/-- R283: SWAP D. -/
def execSwap_D (s : State) : Result := shiftReg .swap .d s

/-- R283: SWAP E. -/
def execSwap_E (s : State) : Result := shiftReg .swap .e s

/-- R283: SWAP H. -/
def execSwap_H (s : State) : Result := shiftReg .swap .h s

/-- R283: SWAP L. -/
def execSwap_L (s : State) : Result := shiftReg .swap .l s

/-- R284: SWAP (HL). -/
def execSwap_mHL (s : State) : Result := shiftMem .swap s

/-- R283: SWAP A. -/
def execSwap_A (s : State) : Result := shiftReg .swap .a s

/-- R285: SRL B. -/
def execSrl_B (s : State) : Result := shiftReg .srl .b s

/-- R285: SRL C. -/
def execSrl_C (s : State) : Result := shiftReg .srl .c s

/-- R285: SRL D. -/
def execSrl_D (s : State) : Result := shiftReg .srl .d s

/-- R285: SRL E. -/
def execSrl_E (s : State) : Result := shiftReg .srl .e s

/-- R285: SRL H. -/
def execSrl_H (s : State) : Result := shiftReg .srl .h s

/-- R285: SRL L. -/
def execSrl_L (s : State) : Result := shiftReg .srl .l s

/-- R286: SRL (HL). -/
def execSrl_mHL (s : State) : Result := shiftMem .srl s

/-- R285: SRL A. -/
def execSrl_A (s : State) : Result := shiftReg .srl .a s

/-- R287: BIT 0,B. -/
def execBit_0_B (s : State) : Result := bitTest .i0 (s.operand (.reg .b)) s

/-- R287: BIT 0,C. -/
def execBit_0_C (s : State) : Result := bitTest .i0 (s.operand (.reg .c)) s

/-- R287: BIT 0,D. -/
def execBit_0_D (s : State) : Result := bitTest .i0 (s.operand (.reg .d)) s

/-- R287: BIT 0,E. -/
def execBit_0_E (s : State) : Result := bitTest .i0 (s.operand (.reg .e)) s

/-- R287: BIT 0,H. -/
def execBit_0_H (s : State) : Result := bitTest .i0 (s.operand (.reg .h)) s

/-- R287: BIT 0,L. -/
def execBit_0_L (s : State) : Result := bitTest .i0 (s.operand (.reg .l)) s

/-- R288: BIT 0,(HL). -/
def execBit_0_mHL (s : State) : Result := bitTest .i0 (s.operand .atHL) s

/-- R287: BIT 0,A. -/
def execBit_0_A (s : State) : Result := bitTest .i0 (s.operand (.reg .a)) s

/-- R287: BIT 1,B. -/
def execBit_1_B (s : State) : Result := bitTest .i1 (s.operand (.reg .b)) s

/-- R287: BIT 1,C. -/
def execBit_1_C (s : State) : Result := bitTest .i1 (s.operand (.reg .c)) s

/-- R287: BIT 1,D. -/
def execBit_1_D (s : State) : Result := bitTest .i1 (s.operand (.reg .d)) s

/-- R287: BIT 1,E. -/
def execBit_1_E (s : State) : Result := bitTest .i1 (s.operand (.reg .e)) s

/-- R287: BIT 1,H. -/
def execBit_1_H (s : State) : Result := bitTest .i1 (s.operand (.reg .h)) s

/-- R287: BIT 1,L. -/
def execBit_1_L (s : State) : Result := bitTest .i1 (s.operand (.reg .l)) s

/-- R288: BIT 1,(HL). -/
def execBit_1_mHL (s : State) : Result := bitTest .i1 (s.operand .atHL) s

/-- R287: BIT 1,A. -/
def execBit_1_A (s : State) : Result := bitTest .i1 (s.operand (.reg .a)) s

/-- R287: BIT 2,B. -/
def execBit_2_B (s : State) : Result := bitTest .i2 (s.operand (.reg .b)) s

/-- R287: BIT 2,C. -/
def execBit_2_C (s : State) : Result := bitTest .i2 (s.operand (.reg .c)) s

/-- R287: BIT 2,D. -/
def execBit_2_D (s : State) : Result := bitTest .i2 (s.operand (.reg .d)) s

/-- R287: BIT 2,E. -/
def execBit_2_E (s : State) : Result := bitTest .i2 (s.operand (.reg .e)) s

/-- R287: BIT 2,H. -/
def execBit_2_H (s : State) : Result := bitTest .i2 (s.operand (.reg .h)) s

/-- R287: BIT 2,L. -/
def execBit_2_L (s : State) : Result := bitTest .i2 (s.operand (.reg .l)) s

/-- R288: BIT 2,(HL). -/
def execBit_2_mHL (s : State) : Result := bitTest .i2 (s.operand .atHL) s

/-- R287: BIT 2,A. -/
def execBit_2_A (s : State) : Result := bitTest .i2 (s.operand (.reg .a)) s

/-- R287: BIT 3,B. -/
def execBit_3_B (s : State) : Result := bitTest .i3 (s.operand (.reg .b)) s

/-- R287: BIT 3,C. -/
def execBit_3_C (s : State) : Result := bitTest .i3 (s.operand (.reg .c)) s

/-- R287: BIT 3,D. -/
def execBit_3_D (s : State) : Result := bitTest .i3 (s.operand (.reg .d)) s

/-- R287: BIT 3,E. -/
def execBit_3_E (s : State) : Result := bitTest .i3 (s.operand (.reg .e)) s

/-- R287: BIT 3,H. -/
def execBit_3_H (s : State) : Result := bitTest .i3 (s.operand (.reg .h)) s

/-- R287: BIT 3,L. -/
def execBit_3_L (s : State) : Result := bitTest .i3 (s.operand (.reg .l)) s

/-- R288: BIT 3,(HL). -/
def execBit_3_mHL (s : State) : Result := bitTest .i3 (s.operand .atHL) s

/-- R287: BIT 3,A. -/
def execBit_3_A (s : State) : Result := bitTest .i3 (s.operand (.reg .a)) s

/-- R287: BIT 4,B. -/
def execBit_4_B (s : State) : Result := bitTest .i4 (s.operand (.reg .b)) s

/-- R287: BIT 4,C. -/
def execBit_4_C (s : State) : Result := bitTest .i4 (s.operand (.reg .c)) s

/-- R287: BIT 4,D. -/
def execBit_4_D (s : State) : Result := bitTest .i4 (s.operand (.reg .d)) s

/-- R287: BIT 4,E. -/
def execBit_4_E (s : State) : Result := bitTest .i4 (s.operand (.reg .e)) s

/-- R287: BIT 4,H. -/
def execBit_4_H (s : State) : Result := bitTest .i4 (s.operand (.reg .h)) s

/-- R287: BIT 4,L. -/
def execBit_4_L (s : State) : Result := bitTest .i4 (s.operand (.reg .l)) s

/-- R288: BIT 4,(HL). -/
def execBit_4_mHL (s : State) : Result := bitTest .i4 (s.operand .atHL) s

/-- R287: BIT 4,A. -/
def execBit_4_A (s : State) : Result := bitTest .i4 (s.operand (.reg .a)) s

/-- R287: BIT 5,B. -/
def execBit_5_B (s : State) : Result := bitTest .i5 (s.operand (.reg .b)) s

/-- R287: BIT 5,C. -/
def execBit_5_C (s : State) : Result := bitTest .i5 (s.operand (.reg .c)) s

/-- R287: BIT 5,D. -/
def execBit_5_D (s : State) : Result := bitTest .i5 (s.operand (.reg .d)) s

/-- R287: BIT 5,E. -/
def execBit_5_E (s : State) : Result := bitTest .i5 (s.operand (.reg .e)) s

/-- R287: BIT 5,H. -/
def execBit_5_H (s : State) : Result := bitTest .i5 (s.operand (.reg .h)) s

/-- R287: BIT 5,L. -/
def execBit_5_L (s : State) : Result := bitTest .i5 (s.operand (.reg .l)) s

/-- R288: BIT 5,(HL). -/
def execBit_5_mHL (s : State) : Result := bitTest .i5 (s.operand .atHL) s

/-- R287: BIT 5,A. -/
def execBit_5_A (s : State) : Result := bitTest .i5 (s.operand (.reg .a)) s

/-- R287: BIT 6,B. -/
def execBit_6_B (s : State) : Result := bitTest .i6 (s.operand (.reg .b)) s

/-- R287: BIT 6,C. -/
def execBit_6_C (s : State) : Result := bitTest .i6 (s.operand (.reg .c)) s

/-- R287: BIT 6,D. -/
def execBit_6_D (s : State) : Result := bitTest .i6 (s.operand (.reg .d)) s

/-- R287: BIT 6,E. -/
def execBit_6_E (s : State) : Result := bitTest .i6 (s.operand (.reg .e)) s

/-- R287: BIT 6,H. -/
def execBit_6_H (s : State) : Result := bitTest .i6 (s.operand (.reg .h)) s

/-- R287: BIT 6,L. -/
def execBit_6_L (s : State) : Result := bitTest .i6 (s.operand (.reg .l)) s

/-- R288: BIT 6,(HL). -/
def execBit_6_mHL (s : State) : Result := bitTest .i6 (s.operand .atHL) s

/-- R287: BIT 6,A. -/
def execBit_6_A (s : State) : Result := bitTest .i6 (s.operand (.reg .a)) s

/-- R287: BIT 7,B. -/
def execBit_7_B (s : State) : Result := bitTest .i7 (s.operand (.reg .b)) s

/-- R287: BIT 7,C. -/
def execBit_7_C (s : State) : Result := bitTest .i7 (s.operand (.reg .c)) s

/-- R287: BIT 7,D. -/
def execBit_7_D (s : State) : Result := bitTest .i7 (s.operand (.reg .d)) s

/-- R287: BIT 7,E. -/
def execBit_7_E (s : State) : Result := bitTest .i7 (s.operand (.reg .e)) s

/-- R287: BIT 7,H. -/
def execBit_7_H (s : State) : Result := bitTest .i7 (s.operand (.reg .h)) s

/-- R287: BIT 7,L. -/
def execBit_7_L (s : State) : Result := bitTest .i7 (s.operand (.reg .l)) s

/-- R288: BIT 7,(HL). -/
def execBit_7_mHL (s : State) : Result := bitTest .i7 (s.operand .atHL) s

/-- R287: BIT 7,A. -/
def execBit_7_A (s : State) : Result := bitTest .i7 (s.operand (.reg .a)) s

/-- R289: RES 0,B. -/
def execRes_0_B (s : State) : Result := loadBitReg (resBit (s.reg .b) .i0) .b s

/-- R289: RES 0,C. -/
def execRes_0_C (s : State) : Result := loadBitReg (resBit (s.reg .c) .i0) .c s

/-- R289: RES 0,D. -/
def execRes_0_D (s : State) : Result := loadBitReg (resBit (s.reg .d) .i0) .d s

/-- R289: RES 0,E. -/
def execRes_0_E (s : State) : Result := loadBitReg (resBit (s.reg .e) .i0) .e s

/-- R289: RES 0,H. -/
def execRes_0_H (s : State) : Result := loadBitReg (resBit (s.reg .h) .i0) .h s

/-- R289: RES 0,L. -/
def execRes_0_L (s : State) : Result := loadBitReg (resBit (s.reg .l) .i0) .l s

/-- R290: RES 0,(HL). -/
def execRes_0_mHL (s : State) : Result := resMem .i0 s

/-- R289: RES 0,A. -/
def execRes_0_A (s : State) : Result := loadBitReg (resBit (s.reg .a) .i0) .a s

/-- R289: RES 1,B. -/
def execRes_1_B (s : State) : Result := loadBitReg (resBit (s.reg .b) .i1) .b s

/-- R289: RES 1,C. -/
def execRes_1_C (s : State) : Result := loadBitReg (resBit (s.reg .c) .i1) .c s

/-- R289: RES 1,D. -/
def execRes_1_D (s : State) : Result := loadBitReg (resBit (s.reg .d) .i1) .d s

/-- R289: RES 1,E. -/
def execRes_1_E (s : State) : Result := loadBitReg (resBit (s.reg .e) .i1) .e s

/-- R289: RES 1,H. -/
def execRes_1_H (s : State) : Result := loadBitReg (resBit (s.reg .h) .i1) .h s

/-- R289: RES 1,L. -/
def execRes_1_L (s : State) : Result := loadBitReg (resBit (s.reg .l) .i1) .l s

/-- R290: RES 1,(HL). -/
def execRes_1_mHL (s : State) : Result := resMem .i1 s

/-- R289: RES 1,A. -/
def execRes_1_A (s : State) : Result := loadBitReg (resBit (s.reg .a) .i1) .a s

/-- R289: RES 2,B. -/
def execRes_2_B (s : State) : Result := loadBitReg (resBit (s.reg .b) .i2) .b s

/-- R289: RES 2,C. -/
def execRes_2_C (s : State) : Result := loadBitReg (resBit (s.reg .c) .i2) .c s

/-- R289: RES 2,D. -/
def execRes_2_D (s : State) : Result := loadBitReg (resBit (s.reg .d) .i2) .d s

/-- R289: RES 2,E. -/
def execRes_2_E (s : State) : Result := loadBitReg (resBit (s.reg .e) .i2) .e s

/-- R289: RES 2,H. -/
def execRes_2_H (s : State) : Result := loadBitReg (resBit (s.reg .h) .i2) .h s

/-- R289: RES 2,L. -/
def execRes_2_L (s : State) : Result := loadBitReg (resBit (s.reg .l) .i2) .l s

/-- R290: RES 2,(HL). -/
def execRes_2_mHL (s : State) : Result := resMem .i2 s

/-- R289: RES 2,A. -/
def execRes_2_A (s : State) : Result := loadBitReg (resBit (s.reg .a) .i2) .a s

/-- R289: RES 3,B. -/
def execRes_3_B (s : State) : Result := loadBitReg (resBit (s.reg .b) .i3) .b s

/-- R289: RES 3,C. -/
def execRes_3_C (s : State) : Result := loadBitReg (resBit (s.reg .c) .i3) .c s

/-- R289: RES 3,D. -/
def execRes_3_D (s : State) : Result := loadBitReg (resBit (s.reg .d) .i3) .d s

/-- R289: RES 3,E. -/
def execRes_3_E (s : State) : Result := loadBitReg (resBit (s.reg .e) .i3) .e s

/-- R289: RES 3,H. -/
def execRes_3_H (s : State) : Result := loadBitReg (resBit (s.reg .h) .i3) .h s

/-- R289: RES 3,L. -/
def execRes_3_L (s : State) : Result := loadBitReg (resBit (s.reg .l) .i3) .l s

/-- R290: RES 3,(HL). -/
def execRes_3_mHL (s : State) : Result := resMem .i3 s

/-- R289: RES 3,A. -/
def execRes_3_A (s : State) : Result := loadBitReg (resBit (s.reg .a) .i3) .a s

/-- R289: RES 4,B. -/
def execRes_4_B (s : State) : Result := loadBitReg (resBit (s.reg .b) .i4) .b s

/-- R289: RES 4,C. -/
def execRes_4_C (s : State) : Result := loadBitReg (resBit (s.reg .c) .i4) .c s

/-- R289: RES 4,D. -/
def execRes_4_D (s : State) : Result := loadBitReg (resBit (s.reg .d) .i4) .d s

/-- R289: RES 4,E. -/
def execRes_4_E (s : State) : Result := loadBitReg (resBit (s.reg .e) .i4) .e s

/-- R289: RES 4,H. -/
def execRes_4_H (s : State) : Result := loadBitReg (resBit (s.reg .h) .i4) .h s

/-- R289: RES 4,L. -/
def execRes_4_L (s : State) : Result := loadBitReg (resBit (s.reg .l) .i4) .l s

/-- R290: RES 4,(HL). -/
def execRes_4_mHL (s : State) : Result := resMem .i4 s

/-- R289: RES 4,A. -/
def execRes_4_A (s : State) : Result := loadBitReg (resBit (s.reg .a) .i4) .a s

/-- R289: RES 5,B. -/
def execRes_5_B (s : State) : Result := loadBitReg (resBit (s.reg .b) .i5) .b s

/-- R289: RES 5,C. -/
def execRes_5_C (s : State) : Result := loadBitReg (resBit (s.reg .c) .i5) .c s

/-- R289: RES 5,D. -/
def execRes_5_D (s : State) : Result := loadBitReg (resBit (s.reg .d) .i5) .d s

/-- R289: RES 5,E. -/
def execRes_5_E (s : State) : Result := loadBitReg (resBit (s.reg .e) .i5) .e s

/-- R289: RES 5,H. -/
def execRes_5_H (s : State) : Result := loadBitReg (resBit (s.reg .h) .i5) .h s

/-- R289: RES 5,L. -/
def execRes_5_L (s : State) : Result := loadBitReg (resBit (s.reg .l) .i5) .l s

/-- R290: RES 5,(HL). -/
def execRes_5_mHL (s : State) : Result := resMem .i5 s

/-- R289: RES 5,A. -/
def execRes_5_A (s : State) : Result := loadBitReg (resBit (s.reg .a) .i5) .a s

/-- R289: RES 6,B. -/
def execRes_6_B (s : State) : Result := loadBitReg (resBit (s.reg .b) .i6) .b s

/-- R289: RES 6,C. -/
def execRes_6_C (s : State) : Result := loadBitReg (resBit (s.reg .c) .i6) .c s

/-- R289: RES 6,D. -/
def execRes_6_D (s : State) : Result := loadBitReg (resBit (s.reg .d) .i6) .d s

/-- R289: RES 6,E. -/
def execRes_6_E (s : State) : Result := loadBitReg (resBit (s.reg .e) .i6) .e s

/-- R289: RES 6,H. -/
def execRes_6_H (s : State) : Result := loadBitReg (resBit (s.reg .h) .i6) .h s

/-- R289: RES 6,L. -/
def execRes_6_L (s : State) : Result := loadBitReg (resBit (s.reg .l) .i6) .l s

/-- R290: RES 6,(HL). -/
def execRes_6_mHL (s : State) : Result := resMem .i6 s

/-- R289: RES 6,A. -/
def execRes_6_A (s : State) : Result := loadBitReg (resBit (s.reg .a) .i6) .a s

/-- R289: RES 7,B. -/
def execRes_7_B (s : State) : Result := loadBitReg (resBit (s.reg .b) .i7) .b s

/-- R289: RES 7,C. -/
def execRes_7_C (s : State) : Result := loadBitReg (resBit (s.reg .c) .i7) .c s

/-- R289: RES 7,D. -/
def execRes_7_D (s : State) : Result := loadBitReg (resBit (s.reg .d) .i7) .d s

/-- R289: RES 7,E. -/
def execRes_7_E (s : State) : Result := loadBitReg (resBit (s.reg .e) .i7) .e s

/-- R289: RES 7,H. -/
def execRes_7_H (s : State) : Result := loadBitReg (resBit (s.reg .h) .i7) .h s

/-- R289: RES 7,L. -/
def execRes_7_L (s : State) : Result := loadBitReg (resBit (s.reg .l) .i7) .l s

/-- R290: RES 7,(HL). -/
def execRes_7_mHL (s : State) : Result := resMem .i7 s

/-- R289: RES 7,A. -/
def execRes_7_A (s : State) : Result := loadBitReg (resBit (s.reg .a) .i7) .a s

/-- R291: SET 0,B. -/
def execSet_0_B (s : State) : Result := loadBitReg (setBit (s.reg .b) .i0) .b s

/-- R291: SET 0,C. -/
def execSet_0_C (s : State) : Result := loadBitReg (setBit (s.reg .c) .i0) .c s

/-- R291: SET 0,D. -/
def execSet_0_D (s : State) : Result := loadBitReg (setBit (s.reg .d) .i0) .d s

/-- R291: SET 0,E. -/
def execSet_0_E (s : State) : Result := loadBitReg (setBit (s.reg .e) .i0) .e s

/-- R291: SET 0,H. -/
def execSet_0_H (s : State) : Result := loadBitReg (setBit (s.reg .h) .i0) .h s

/-- R291: SET 0,L. -/
def execSet_0_L (s : State) : Result := loadBitReg (setBit (s.reg .l) .i0) .l s

/-- R292: SET 0,(HL). -/
def execSet_0_mHL (s : State) : Result := setMem .i0 s

/-- R291: SET 0,A. -/
def execSet_0_A (s : State) : Result := loadBitReg (setBit (s.reg .a) .i0) .a s

/-- R291: SET 1,B. -/
def execSet_1_B (s : State) : Result := loadBitReg (setBit (s.reg .b) .i1) .b s

/-- R291: SET 1,C. -/
def execSet_1_C (s : State) : Result := loadBitReg (setBit (s.reg .c) .i1) .c s

/-- R291: SET 1,D. -/
def execSet_1_D (s : State) : Result := loadBitReg (setBit (s.reg .d) .i1) .d s

/-- R291: SET 1,E. -/
def execSet_1_E (s : State) : Result := loadBitReg (setBit (s.reg .e) .i1) .e s

/-- R291: SET 1,H. -/
def execSet_1_H (s : State) : Result := loadBitReg (setBit (s.reg .h) .i1) .h s

/-- R291: SET 1,L. -/
def execSet_1_L (s : State) : Result := loadBitReg (setBit (s.reg .l) .i1) .l s

/-- R292: SET 1,(HL). -/
def execSet_1_mHL (s : State) : Result := setMem .i1 s

/-- R291: SET 1,A. -/
def execSet_1_A (s : State) : Result := loadBitReg (setBit (s.reg .a) .i1) .a s

/-- R291: SET 2,B. -/
def execSet_2_B (s : State) : Result := loadBitReg (setBit (s.reg .b) .i2) .b s

/-- R291: SET 2,C. -/
def execSet_2_C (s : State) : Result := loadBitReg (setBit (s.reg .c) .i2) .c s

/-- R291: SET 2,D. -/
def execSet_2_D (s : State) : Result := loadBitReg (setBit (s.reg .d) .i2) .d s

/-- R291: SET 2,E. -/
def execSet_2_E (s : State) : Result := loadBitReg (setBit (s.reg .e) .i2) .e s

/-- R291: SET 2,H. -/
def execSet_2_H (s : State) : Result := loadBitReg (setBit (s.reg .h) .i2) .h s

/-- R291: SET 2,L. -/
def execSet_2_L (s : State) : Result := loadBitReg (setBit (s.reg .l) .i2) .l s

/-- R292: SET 2,(HL). -/
def execSet_2_mHL (s : State) : Result := setMem .i2 s

/-- R291: SET 2,A. -/
def execSet_2_A (s : State) : Result := loadBitReg (setBit (s.reg .a) .i2) .a s

/-- R291: SET 3,B. -/
def execSet_3_B (s : State) : Result := loadBitReg (setBit (s.reg .b) .i3) .b s

/-- R291: SET 3,C. -/
def execSet_3_C (s : State) : Result := loadBitReg (setBit (s.reg .c) .i3) .c s

/-- R291: SET 3,D. -/
def execSet_3_D (s : State) : Result := loadBitReg (setBit (s.reg .d) .i3) .d s

/-- R291: SET 3,E. -/
def execSet_3_E (s : State) : Result := loadBitReg (setBit (s.reg .e) .i3) .e s

/-- R291: SET 3,H. -/
def execSet_3_H (s : State) : Result := loadBitReg (setBit (s.reg .h) .i3) .h s

/-- R291: SET 3,L. -/
def execSet_3_L (s : State) : Result := loadBitReg (setBit (s.reg .l) .i3) .l s

/-- R292: SET 3,(HL). -/
def execSet_3_mHL (s : State) : Result := setMem .i3 s

/-- R291: SET 3,A. -/
def execSet_3_A (s : State) : Result := loadBitReg (setBit (s.reg .a) .i3) .a s

/-- R291: SET 4,B. -/
def execSet_4_B (s : State) : Result := loadBitReg (setBit (s.reg .b) .i4) .b s

/-- R291: SET 4,C. -/
def execSet_4_C (s : State) : Result := loadBitReg (setBit (s.reg .c) .i4) .c s

/-- R291: SET 4,D. -/
def execSet_4_D (s : State) : Result := loadBitReg (setBit (s.reg .d) .i4) .d s

/-- R291: SET 4,E. -/
def execSet_4_E (s : State) : Result := loadBitReg (setBit (s.reg .e) .i4) .e s

/-- R291: SET 4,H. -/
def execSet_4_H (s : State) : Result := loadBitReg (setBit (s.reg .h) .i4) .h s

/-- R291: SET 4,L. -/
def execSet_4_L (s : State) : Result := loadBitReg (setBit (s.reg .l) .i4) .l s

/-- R292: SET 4,(HL). -/
def execSet_4_mHL (s : State) : Result := setMem .i4 s

/-- R291: SET 4,A. -/
def execSet_4_A (s : State) : Result := loadBitReg (setBit (s.reg .a) .i4) .a s

/-- R291: SET 5,B. -/
def execSet_5_B (s : State) : Result := loadBitReg (setBit (s.reg .b) .i5) .b s

/-- R291: SET 5,C. -/
def execSet_5_C (s : State) : Result := loadBitReg (setBit (s.reg .c) .i5) .c s

/-- R291: SET 5,D. -/
def execSet_5_D (s : State) : Result := loadBitReg (setBit (s.reg .d) .i5) .d s

/-- R291: SET 5,E. -/
def execSet_5_E (s : State) : Result := loadBitReg (setBit (s.reg .e) .i5) .e s

/-- R291: SET 5,H. -/
def execSet_5_H (s : State) : Result := loadBitReg (setBit (s.reg .h) .i5) .h s

/-- R291: SET 5,L. -/
def execSet_5_L (s : State) : Result := loadBitReg (setBit (s.reg .l) .i5) .l s

/-- R292: SET 5,(HL). -/
def execSet_5_mHL (s : State) : Result := setMem .i5 s

/-- R291: SET 5,A. -/
def execSet_5_A (s : State) : Result := loadBitReg (setBit (s.reg .a) .i5) .a s

/-- R291: SET 6,B. -/
def execSet_6_B (s : State) : Result := loadBitReg (setBit (s.reg .b) .i6) .b s

/-- R291: SET 6,C. -/
def execSet_6_C (s : State) : Result := loadBitReg (setBit (s.reg .c) .i6) .c s

/-- R291: SET 6,D. -/
def execSet_6_D (s : State) : Result := loadBitReg (setBit (s.reg .d) .i6) .d s

/-- R291: SET 6,E. -/
def execSet_6_E (s : State) : Result := loadBitReg (setBit (s.reg .e) .i6) .e s

/-- R291: SET 6,H. -/
def execSet_6_H (s : State) : Result := loadBitReg (setBit (s.reg .h) .i6) .h s

/-- R291: SET 6,L. -/
def execSet_6_L (s : State) : Result := loadBitReg (setBit (s.reg .l) .i6) .l s

/-- R292: SET 6,(HL). -/
def execSet_6_mHL (s : State) : Result := setMem .i6 s

/-- R291: SET 6,A. -/
def execSet_6_A (s : State) : Result := loadBitReg (setBit (s.reg .a) .i6) .a s

/-- R291: SET 7,B. -/
def execSet_7_B (s : State) : Result := loadBitReg (setBit (s.reg .b) .i7) .b s

/-- R291: SET 7,C. -/
def execSet_7_C (s : State) : Result := loadBitReg (setBit (s.reg .c) .i7) .c s

/-- R291: SET 7,D. -/
def execSet_7_D (s : State) : Result := loadBitReg (setBit (s.reg .d) .i7) .d s

/-- R291: SET 7,E. -/
def execSet_7_E (s : State) : Result := loadBitReg (setBit (s.reg .e) .i7) .e s

/-- R291: SET 7,H. -/
def execSet_7_H (s : State) : Result := loadBitReg (setBit (s.reg .h) .i7) .h s

/-- R291: SET 7,L. -/
def execSet_7_L (s : State) : Result := loadBitReg (setBit (s.reg .l) .i7) .l s

/-- R292: SET 7,(HL). -/
def execSet_7_mHL (s : State) : Result := setMem .i7 s

/-- R291: SET 7,A. -/
def execSet_7_A (s : State) : Result := loadBitReg (setBit (s.reg .a) .i7) .a s

end Sys2Proof.Machine
end

