-- ==== Sys2Proof/Machine/Control.lean ====
section
/-! DEFINITION. Control transfer (47_control.md R240 to R250). `s.pc` is the address after the whole instruction; none writes F. -/

namespace Sys2Proof.Machine

/-- `pc <- target`. -/
def jumpTo (target : Word) (s : State) : Result := .next (s.setPC target)

/-- A conditional jump. -/
def jumpIf (taken : Bool) (target : Word) (s : State) : Result := if taken then jumpTo target s else .next s

/-- `push16(pc); pc <- target`: a faulting store leaves `pc`. -/
def callTo (target : Word) (s : State) : Result := push16 s.pc s (jumpTo target)

/-- A conditional call: nothing is pushed when not taken. -/
def callIf (taken : Bool) (target : Word) (s : State) : Result := if taken then callTo target s else .next s

/-- `pc <- pop16()`, when taken. -/
def returnIf (taken : Bool) (s : State) : Result :=
  if taken then jumpTo (popValue s) (popState s) else .next s

/-- R243: JR e. -/
def execJr_e (e : Byte) (s : State) : Result := jumpTo (s.pc + sext16 e) s

/-- R244: JR NZ,e. -/
def execJr_NZ_e (e : Byte) (s : State) : Result := jumpIf (condHolds .nz s.f) (s.pc + sext16 e) s

/-- R244: JR Z,e. -/
def execJr_Z_e (e : Byte) (s : State) : Result := jumpIf (condHolds .z s.f) (s.pc + sext16 e) s

/-- R244: JR NC,e. -/
def execJr_NC_e (e : Byte) (s : State) : Result := jumpIf (condHolds .nc s.f) (s.pc + sext16 e) s

/-- R244: JR C,e. -/
def execJr_C_e (e : Byte) (s : State) : Result := jumpIf (condHolds .c s.f) (s.pc + sext16 e) s

/-- R248: RET NZ. -/
def execRet_NZ (s : State) : Result := returnIf (condHolds .nz s.f) s

/-- R241: JP NZ,nn. -/
def execJp_NZ_nn (nn : Word) (s : State) : Result := jumpIf (condHolds .nz s.f) nn s

/-- R240: JP nn. -/
def execJp_nn (nn : Word) (s : State) : Result := jumpTo nn s

/-- R246: CALL NZ,nn. -/
def execCall_NZ_nn (nn : Word) (s : State) : Result := callIf (condHolds .nz s.f) nn s

/-- R250: RST 00h. -/
def execRst_00h (s : State) : Result := callTo 0x0000 s

/-- R248: RET Z. -/
def execRet_Z (s : State) : Result := returnIf (condHolds .z s.f) s

/-- R247: RET. -/
def execRet (s : State) : Result := returnIf true s

/-- R241: JP Z,nn. -/
def execJp_Z_nn (nn : Word) (s : State) : Result := jumpIf (condHolds .z s.f) nn s

/-- R246: CALL Z,nn. -/
def execCall_Z_nn (nn : Word) (s : State) : Result := callIf (condHolds .z s.f) nn s

/-- R245: CALL nn. -/
def execCall_nn (nn : Word) (s : State) : Result := callTo nn s

/-- R250: RST 08h. -/
def execRst_08h (s : State) : Result := callTo 0x0008 s

/-- R248: RET NC. -/
def execRet_NC (s : State) : Result := returnIf (condHolds .nc s.f) s

/-- R241: JP NC,nn. -/
def execJp_NC_nn (nn : Word) (s : State) : Result := jumpIf (condHolds .nc s.f) nn s

/-- R246: CALL NC,nn. -/
def execCall_NC_nn (nn : Word) (s : State) : Result := callIf (condHolds .nc s.f) nn s

/-- R250: RST 10h. -/
def execRst_10h (s : State) : Result := callTo 0x0010 s

/-- R248: RET C. -/
def execRet_C (s : State) : Result := returnIf (condHolds .c s.f) s

/-- R249: RETI. -/
def execReti (s : State) : Result := returnIf true (s.setIme true)

/-- R241: JP C,nn. -/
def execJp_C_nn (nn : Word) (s : State) : Result := jumpIf (condHolds .c s.f) nn s

/-- R246: CALL C,nn. -/
def execCall_C_nn (nn : Word) (s : State) : Result := callIf (condHolds .c s.f) nn s

/-- R250: RST 18h. -/
def execRst_18h (s : State) : Result := callTo 0x0018 s

/-- R250: RST 20h. -/
def execRst_20h (s : State) : Result := callTo 0x0020 s

/-- R242: JP HL. -/
def execJp_HL (s : State) : Result := jumpTo s.hl s

/-- R250: RST 28h. -/
def execRst_28h (s : State) : Result := callTo 0x0028 s

/-- R250: RST 30h. -/
def execRst_30h (s : State) : Result := callTo 0x0030 s

/-- R250: RST 38h. -/
def execRst_38h (s : State) : Result := callTo 0x0038 s

end Sys2Proof.Machine
end

