-- ==== Sys2Proof/Machine/Load16.lean ====
section
/-! DEFINITION. 16-bit loads and the stack (45_load16_stack.md R220 to R225). -/

namespace Sys2Proof.Machine

/-- `xp[rr] <- v`, or `sp <- v`. -/
def loadPair (p : PairSP) (v : Word) (s : State) : Result := .next (s.setPair p v)

/-- LD (nn),SP (R221): the low byte at `nn`, then the high byte at `nn + 1`. -/
def storeSP (nn : Word) (s : State) : Result :=
  store nn (loByte s.sp) s fun t => store (nn + 1) (hiByte s.sp) t .next

/-- POP qq (R224). -/
def popPair (p : PairAF) (s : State) : Result := .next ((popState s).setStackPair p (popValue s))

/-- LD HL,SP+e (R225): `sp` is not written. -/
def loadHLSPe (e : Byte) (s : State) : Result :=
  .next ((s.setHL (addSPe s.sp e).1).setF (addSPe s.sp e).2)

/-- R220: LD BC,nn. -/
def execLd_BC_nn (nn : Word) (s : State) : Result := loadPair .bc nn s

/-- R221: LD (nn),SP. -/
def execLd_mnn_SP (nn : Word) (s : State) : Result := storeSP nn s

/-- R220: LD DE,nn. -/
def execLd_DE_nn (nn : Word) (s : State) : Result := loadPair .de nn s

/-- R220: LD HL,nn. -/
def execLd_HL_nn (nn : Word) (s : State) : Result := loadPair .hl nn s

/-- R220: LD SP,nn. -/
def execLd_SP_nn (nn : Word) (s : State) : Result := loadPair .sp nn s

/-- R224: POP BC. -/
def execPop_BC (s : State) : Result := popPair .bc s

/-- R223: PUSH BC. -/
def execPush_BC (s : State) : Result := push16 (s.stackPair .bc) s .next

/-- R224: POP DE. -/
def execPop_DE (s : State) : Result := popPair .de s

/-- R223: PUSH DE. -/
def execPush_DE (s : State) : Result := push16 (s.stackPair .de) s .next

/-- R224: POP HL. -/
def execPop_HL (s : State) : Result := popPair .hl s

/-- R223: PUSH HL. -/
def execPush_HL (s : State) : Result := push16 (s.stackPair .hl) s .next

/-- R224: POP AF. -/
def execPop_AF (s : State) : Result := popPair .af s

/-- R223: PUSH AF. -/
def execPush_AF (s : State) : Result := push16 (s.stackPair .af) s .next

/-- R225: LD HL,SP+e. -/
def execLd_HL_SPe (e : Byte) (s : State) : Result := loadHLSPe e s

/-- R222: LD SP,HL. -/
def execLd_SP_HL (s : State) : Result := loadPair .sp s.hl s

end Sys2Proof.Machine
end

