-- ==== Sys2Proof/Machine/Load8.lean ====
section
/-! DEFINITION. 8-bit loads and stores (44_load8.md R190 to R208). None writes F. -/

namespace Sys2Proof.Machine

/-- `x[r] <- v`. -/
def loadReg (r : Reg8) (v : Byte) (s : State) : Result := .next (s.setReg r v)

/-- `MemWrite(addr, 1, v)` and nothing after it. -/
def storeByte (addr : Word) (v : Byte) (s : State) : Result := store addr v s .next

/-- `x[A] <- MemRead(S.HL, 1); xp[HL] <- hl'` (R205, R206). -/
def loadAccStep (hl' : Word) (s : State) : Result := .next ((s.setReg .a (s.mem.read s.hl)).setHL hl')

/-- `MemWrite(S.HL, 1, S.A); xp[HL] <- hl'` (R207, R208): a faulting store leaves HL. -/
def storeAccStep (hl' : Word) (s : State) : Result := store s.hl s.a s fun t => .next (t.setHL hl')

/-- R197: LD (BC),A. -/
def execLd_mBC_A (s : State) : Result := storeByte s.bc s.a s

/-- R191: LD B,n. -/
def execLd_B_n (n : Byte) (s : State) : Result := loadReg .b n s

/-- R195: LD A,(BC). -/
def execLd_A_mBC (s : State) : Result := loadReg .a (s.mem.read s.bc) s

/-- R191: LD C,n. -/
def execLd_C_n (n : Byte) (s : State) : Result := loadReg .c n s

/-- R198: LD (DE),A. -/
def execLd_mDE_A (s : State) : Result := storeByte s.de s.a s

/-- R191: LD D,n. -/
def execLd_D_n (n : Byte) (s : State) : Result := loadReg .d n s

/-- R196: LD A,(DE). -/
def execLd_A_mDE (s : State) : Result := loadReg .a (s.mem.read s.de) s

/-- R191: LD E,n. -/
def execLd_E_n (n : Byte) (s : State) : Result := loadReg .e n s

/-- R207: LD (HL+),A. -/
def execLd_mHLi_A (s : State) : Result := storeAccStep (s.hl + 1) s

/-- R191: LD H,n. -/
def execLd_H_n (n : Byte) (s : State) : Result := loadReg .h n s

/-- R205: LD A,(HL+). -/
def execLd_A_mHLi (s : State) : Result := loadAccStep (s.hl + 1) s

/-- R191: LD L,n. -/
def execLd_L_n (n : Byte) (s : State) : Result := loadReg .l n s

/-- R208: LD (HL-),A. -/
def execLd_mHLd_A (s : State) : Result := storeAccStep (s.hl - 1) s

/-- R194: LD (HL),n. -/
def execLd_mHL_n (n : Byte) (s : State) : Result := storeByte s.hl n s

/-- R206: LD A,(HL-). -/
def execLd_A_mHLd (s : State) : Result := loadAccStep (s.hl - 1) s

/-- R191: LD A,n. -/
def execLd_A_n (n : Byte) (s : State) : Result := loadReg .a n s

/-- R190: LD B,B. -/
def execLd_B_B (s : State) : Result := loadReg .b (s.reg .b) s

/-- R190: LD B,C. -/
def execLd_B_C (s : State) : Result := loadReg .b (s.reg .c) s

/-- R190: LD B,D. -/
def execLd_B_D (s : State) : Result := loadReg .b (s.reg .d) s

/-- R190: LD B,E. -/
def execLd_B_E (s : State) : Result := loadReg .b (s.reg .e) s

/-- R190: LD B,H. -/
def execLd_B_H (s : State) : Result := loadReg .b (s.reg .h) s

/-- R190: LD B,L. -/
def execLd_B_L (s : State) : Result := loadReg .b (s.reg .l) s

/-- R192: LD B,(HL). -/
def execLd_B_mHL (s : State) : Result := loadReg .b (s.mem.read s.hl) s

/-- R190: LD B,A. -/
def execLd_B_A (s : State) : Result := loadReg .b (s.reg .a) s

/-- R190: LD C,B. -/
def execLd_C_B (s : State) : Result := loadReg .c (s.reg .b) s

/-- R190: LD C,C. -/
def execLd_C_C (s : State) : Result := loadReg .c (s.reg .c) s

/-- R190: LD C,D. -/
def execLd_C_D (s : State) : Result := loadReg .c (s.reg .d) s

/-- R190: LD C,E. -/
def execLd_C_E (s : State) : Result := loadReg .c (s.reg .e) s

/-- R190: LD C,H. -/
def execLd_C_H (s : State) : Result := loadReg .c (s.reg .h) s

/-- R190: LD C,L. -/
def execLd_C_L (s : State) : Result := loadReg .c (s.reg .l) s

/-- R192: LD C,(HL). -/
def execLd_C_mHL (s : State) : Result := loadReg .c (s.mem.read s.hl) s

/-- R190: LD C,A. -/
def execLd_C_A (s : State) : Result := loadReg .c (s.reg .a) s

/-- R190: LD D,B. -/
def execLd_D_B (s : State) : Result := loadReg .d (s.reg .b) s

/-- R190: LD D,C. -/
def execLd_D_C (s : State) : Result := loadReg .d (s.reg .c) s

/-- R190: LD D,D. -/
def execLd_D_D (s : State) : Result := loadReg .d (s.reg .d) s

/-- R190: LD D,E. -/
def execLd_D_E (s : State) : Result := loadReg .d (s.reg .e) s

/-- R190: LD D,H. -/
def execLd_D_H (s : State) : Result := loadReg .d (s.reg .h) s

/-- R190: LD D,L. -/
def execLd_D_L (s : State) : Result := loadReg .d (s.reg .l) s

/-- R192: LD D,(HL). -/
def execLd_D_mHL (s : State) : Result := loadReg .d (s.mem.read s.hl) s

/-- R190: LD D,A. -/
def execLd_D_A (s : State) : Result := loadReg .d (s.reg .a) s

/-- R190: LD E,B. -/
def execLd_E_B (s : State) : Result := loadReg .e (s.reg .b) s

/-- R190: LD E,C. -/
def execLd_E_C (s : State) : Result := loadReg .e (s.reg .c) s

/-- R190: LD E,D. -/
def execLd_E_D (s : State) : Result := loadReg .e (s.reg .d) s

/-- R190: LD E,E. -/
def execLd_E_E (s : State) : Result := loadReg .e (s.reg .e) s

/-- R190: LD E,H. -/
def execLd_E_H (s : State) : Result := loadReg .e (s.reg .h) s

/-- R190: LD E,L. -/
def execLd_E_L (s : State) : Result := loadReg .e (s.reg .l) s

/-- R192: LD E,(HL). -/
def execLd_E_mHL (s : State) : Result := loadReg .e (s.mem.read s.hl) s

/-- R190: LD E,A. -/
def execLd_E_A (s : State) : Result := loadReg .e (s.reg .a) s

/-- R190: LD H,B. -/
def execLd_H_B (s : State) : Result := loadReg .h (s.reg .b) s

/-- R190: LD H,C. -/
def execLd_H_C (s : State) : Result := loadReg .h (s.reg .c) s

/-- R190: LD H,D. -/
def execLd_H_D (s : State) : Result := loadReg .h (s.reg .d) s

/-- R190: LD H,E. -/
def execLd_H_E (s : State) : Result := loadReg .h (s.reg .e) s

/-- R190: LD H,H. -/
def execLd_H_H (s : State) : Result := loadReg .h (s.reg .h) s

/-- R190: LD H,L. -/
def execLd_H_L (s : State) : Result := loadReg .h (s.reg .l) s

/-- R192: LD H,(HL). -/
def execLd_H_mHL (s : State) : Result := loadReg .h (s.mem.read s.hl) s

/-- R190: LD H,A. -/
def execLd_H_A (s : State) : Result := loadReg .h (s.reg .a) s

/-- R190: LD L,B. -/
def execLd_L_B (s : State) : Result := loadReg .l (s.reg .b) s

/-- R190: LD L,C. -/
def execLd_L_C (s : State) : Result := loadReg .l (s.reg .c) s

/-- R190: LD L,D. -/
def execLd_L_D (s : State) : Result := loadReg .l (s.reg .d) s

/-- R190: LD L,E. -/
def execLd_L_E (s : State) : Result := loadReg .l (s.reg .e) s

/-- R190: LD L,H. -/
def execLd_L_H (s : State) : Result := loadReg .l (s.reg .h) s

/-- R190: LD L,L. -/
def execLd_L_L (s : State) : Result := loadReg .l (s.reg .l) s

/-- R192: LD L,(HL). -/
def execLd_L_mHL (s : State) : Result := loadReg .l (s.mem.read s.hl) s

/-- R190: LD L,A. -/
def execLd_L_A (s : State) : Result := loadReg .l (s.reg .a) s

/-- R193: LD (HL),B. -/
def execLd_mHL_B (s : State) : Result := storeByte s.hl (s.reg .b) s

/-- R193: LD (HL),C. -/
def execLd_mHL_C (s : State) : Result := storeByte s.hl (s.reg .c) s

/-- R193: LD (HL),D. -/
def execLd_mHL_D (s : State) : Result := storeByte s.hl (s.reg .d) s

/-- R193: LD (HL),E. -/
def execLd_mHL_E (s : State) : Result := storeByte s.hl (s.reg .e) s

/-- R193: LD (HL),H. -/
def execLd_mHL_H (s : State) : Result := storeByte s.hl (s.reg .h) s

/-- R193: LD (HL),L. -/
def execLd_mHL_L (s : State) : Result := storeByte s.hl (s.reg .l) s

/-- R193: LD (HL),A. -/
def execLd_mHL_A (s : State) : Result := storeByte s.hl (s.reg .a) s

/-- R190: LD A,B. -/
def execLd_A_B (s : State) : Result := loadReg .a (s.reg .b) s

/-- R190: LD A,C. -/
def execLd_A_C (s : State) : Result := loadReg .a (s.reg .c) s

/-- R190: LD A,D. -/
def execLd_A_D (s : State) : Result := loadReg .a (s.reg .d) s

/-- R190: LD A,E. -/
def execLd_A_E (s : State) : Result := loadReg .a (s.reg .e) s

/-- R190: LD A,H. -/
def execLd_A_H (s : State) : Result := loadReg .a (s.reg .h) s

/-- R190: LD A,L. -/
def execLd_A_L (s : State) : Result := loadReg .a (s.reg .l) s

/-- R192: LD A,(HL). -/
def execLd_A_mHL (s : State) : Result := loadReg .a (s.mem.read s.hl) s

/-- R190: LD A,A. -/
def execLd_A_A (s : State) : Result := loadReg .a (s.reg .a) s

/-- R202: LDH (n),A. -/
def execLdh_mn_A (n : Byte) (s : State) : Result := storeByte (highPage n) s.a s

/-- R204: LD (C),A. -/
def execLd_mC_A (s : State) : Result := storeByte (highPage s.c) s.a s

/-- R200: LD (nn),A. -/
def execLd_mnn_A (nn : Word) (s : State) : Result := storeByte nn s.a s

/-- R201: LDH A,(n). -/
def execLdh_A_mn (n : Byte) (s : State) : Result := loadReg .a (s.mem.read (highPage n)) s

/-- R203: LD A,(C). -/
def execLd_A_mC (s : State) : Result := loadReg .a (s.mem.read (highPage s.c)) s

/-- R199: LD A,(nn). -/
def execLd_A_mnn (nn : Word) (s : State) : Result := loadReg .a (s.mem.read nn) s

end Sys2Proof.Machine
end

