-- ==== Sys2Proof/Machine/RotateMisc.lean ====
section
/-! DEFINITION. Accumulator rotates, DAA, CPL, SCF, CCF (43_rotate_misc.md R180 to R187). -/

namespace Sys2Proof.Machine

/-- An ALU function of A alone: the result to A, F' to F. -/
def rotateAcc (r : Byte × Byte) (s : State) : Result := .next ((s.setReg .a r.1).setF r.2)

/-- F alone is written. -/
def setFlags (f : Byte) (s : State) : Result := .next (s.setF f)

/-- R180: RLCA. -/
def execRlca (s : State) : Result := rotateAcc (aluRlc s.a) s

/-- R181: RRCA. -/
def execRrca (s : State) : Result := rotateAcc (aluRrc s.a) s

/-- R182: RLA. -/
def execRla (s : State) : Result := rotateAcc (aluRl s.cfg.rlCarryIn s.a (flagC s.f)) s

/-- R183: RRA. -/
def execRra (s : State) : Result := rotateAcc (aluRr s.cfg.rlCarryIn s.a (flagC s.f)) s

/-- R184: DAA. -/
def execDaa (s : State) : Result := rotateAcc (aluDaa s.a (flagN s.f) (flagH s.f) (flagC s.f)) s

/-- R185: CPL. -/
def execCpl (s : State) : Result := rotateAcc (aluCpl s.a (flagZ s.f) (flagC s.f)) s

/-- R186: SCF. -/
def execScf (s : State) : Result := setFlags (packF (flagZ s.f) false false true) s

/-- R187: CCF. -/
def execCcf (s : State) : Result := setFlags (packF (flagZ s.f) false false (!flagC s.f)) s

end Sys2Proof.Machine
end

