-- ==== Sys2Proof/Machine/System.lean ====
section
/-! DEFINITION. System and control (48_system.md R260 to R264), and the bytes without an entry (60_exceptions.md R301). -/

namespace Sys2Proof.Machine


/-- R260: NOP. -/
def execNop (s : State) : Result := .next s

/-- R262: STOP. -/
def execStop (_x : Byte) (s : State) : Result := .next (s.setRun .halted)

/-- R261: HALT. -/
def execHalt (s : State) : Result := .next (s.setRun .halted)

/-- R301: no entry. -/
def execNo_entry (op : Byte) (s : State) : Result := raise (.unimplementedOpcode op (s.pc - 1)) s

/-- R263: DI. -/
def execDi (s : State) : Result := .next ((s.setIme false).setEiPending false)

/-- R264: EI. -/
def execEi (s : State) : Result := .next (s.setEiPending true)

end Sys2Proof.Machine
end

