-- ==== Sys2Proof/Machine/Fetch.lean ====
section
/-! DEFINITION. Fetching an instruction's bytes at `pc` (00_scope.md R13, 40_dispatch.md R101). -/

namespace Sys2Proof.Machine

/-- The instruction at `pc` and its length. The three bytes from `pc` upwards are read, modulo 2^16; those beyond the
instruction's length play no part (log entry 6: a read has no side effect, 20_memory.md R51). -/
def fetchInstr (s : State) : Instr × Nat :=
  decode3 (s.mem.read s.pc) (s.mem.read (s.pc + 1)) (s.mem.read (s.pc + 2))

/-- The state after the fetches: `pc` advanced by 1 for every byte of the instruction (10_state.md R29). -/
def advance (len : Nat) (s : State) : State := s.setPC (s.pc + BitVec.ofNat 16 len)

/-- Storage with a program placed in it: the bytes `b0`, `b1`, `b2` at `at`, `at + 1` and `at + 2` (log entry 9). This is not
a bus store, so `WRITABLE` plays no part. -/
def placeBytes (m : Memory) (addr : Word) (b0 b1 b2 : Byte) : Memory :=
  ((m.write addr b0).write (addr + 1) b1).write (addr + 2) b2

end Sys2Proof.Machine
end

