-- ==== Sys2Proof/Machine/Step.lean ====
section
/-! DEFINITION. One step of the dispatcher (40_dispatch.md R100), and the placing of an instruction where the next step
fetches it. -/

namespace Sys2Proof.Machine

/-- `step()` (R100): Halted changes nothing (R107); Faulted has no next state, the recorded reason is answered (R110, log
entry 3); Running fetches, decodes, executes, and resolves the EI delay (R109). -/
def step (s : State) : Host.Outcome State Fault Refusal :=
  match s.run with
  | .halted => .next s
  | .faulted r => .fault r
  | .running => finishStep s.eiPending (exec (fetchInstr s).1 (advance (fetchInstr s).2 s))

/-- `s`, running, with the instruction `w` (its bits numbered as spec/opcode_table.json numbers them) stored where `step`
fetches (log entries 8 and 9). -/
def State.withFetchWord (s : State) (nbits w : Nat) : State :=
  match tableBytes nbits (w % 2 ^ nbits) with
  | (b0, b1, b2) => (s.setMem (placeBytes s.mem s.pc b0 b1 b2)).setRun .running

end Sys2Proof.Machine
end

