-- ==== Sys2Proof/Machine/Cycles.lean ====
section
/-! DEFINITION. The cycle costs (40_dispatch.md R105, R106; 70_reset_and_hazards.md R339, R340), in T-cycles. A cost is a result
of a step, not state (10_state.md R35; log entry 5). -/

namespace Sys2Proof.Machine

/-- The costs of the base opcodes, the taken cost for the conditional forms; a row of sixteen for each high nibble, 0 where
there is no cost (the prefix, whose cost is the CB row's, and the bytes without an entry). -/
def baseCosts : Nat → List Nat
  | 0 => [4, 12, 8, 8, 4, 4, 8, 4, 20, 8, 8, 8, 4, 4, 8, 4]
  | 1 => [4, 12, 8, 8, 4, 4, 8, 4, 12, 8, 8, 8, 4, 4, 8, 4]
  | 2 => [12, 12, 8, 8, 4, 4, 8, 4, 12, 8, 8, 8, 4, 4, 8, 4]
  | 3 => [12, 12, 8, 8, 12, 12, 12, 4, 12, 8, 8, 8, 4, 4, 8, 4]
  | 4 => [4, 4, 4, 4, 4, 4, 8, 4, 4, 4, 4, 4, 4, 4, 8, 4]
  | 5 => [4, 4, 4, 4, 4, 4, 8, 4, 4, 4, 4, 4, 4, 4, 8, 4]
  | 6 => [4, 4, 4, 4, 4, 4, 8, 4, 4, 4, 4, 4, 4, 4, 8, 4]
  | 7 => [8, 8, 8, 8, 8, 8, 4, 8, 4, 4, 4, 4, 4, 4, 8, 4]
  | 8 => [4, 4, 4, 4, 4, 4, 8, 4, 4, 4, 4, 4, 4, 4, 8, 4]
  | 9 => [4, 4, 4, 4, 4, 4, 8, 4, 4, 4, 4, 4, 4, 4, 8, 4]
  | 10 => [4, 4, 4, 4, 4, 4, 8, 4, 4, 4, 4, 4, 4, 4, 8, 4]
  | 11 => [4, 4, 4, 4, 4, 4, 8, 4, 4, 4, 4, 4, 4, 4, 8, 4]
  | 12 => [20, 12, 16, 16, 24, 16, 8, 16, 20, 16, 16, 0, 24, 24, 8, 16]
  | 13 => [20, 12, 16, 0, 24, 16, 8, 16, 20, 16, 16, 0, 24, 0, 8, 16]
  | 14 => [12, 12, 8, 0, 0, 16, 8, 16, 16, 4, 16, 0, 0, 0, 8, 16]
  | 15 => [12, 12, 8, 4, 0, 16, 8, 16, 12, 8, 16, 4, 0, 0, 8, 16]
  | _ => []

/-- The taken cost of a base opcode. -/
def baseCost (op : Byte) : Nat := (baseCosts (op.toNat / 16)).getD (op.toNat % 16) 0

/-- The cost of a CB sub-opcode, prefix included: 8 on a register; on (HL) 12 for BIT and 16 for the others. -/
def cbCost (sub : Byte) : Nat :=
  if sub.extractLsb' 0 3 = 6 then (if sub.extractLsb' 6 2 = 1 then 12 else 16) else 8

/-- The condition a `cc` field names (30_encoding.md R75). -/
def condOf (cc : BitVec 2) : Cond :=
  match cc.toNat with
  | 0 => .nz
  | 1 => .z
  | 2 => .nc
  | _ => .c

/-- The cost when not taken of the opcode bytes of JR cc, JP cc, CALL cc and RET cc, whose `cc` field is bits 4:3 (R106). -/
def notTakenCost (op : Byte) : Option Nat :=
  match (op &&& 0b11100111).toNat with
  | 0b00100000 => some 8
  | 0b11000010 => some 12
  | 0b11000100 => some 12
  | 0b11000000 => some 8
  | _ => none

/-- The cost by the first two bytes and the flags. -/
def costOf (op sub f : Byte) : Option Nat :=
  if op = 0xCB then some (cbCost sub)
  else
    match notTakenCost op with
    | some n => if condHolds (condOf (op.extractLsb' 3 2)) f then some (baseCost op) else some n
    | none => if baseCost op = 0 then none else some (baseCost op)

/-- The cost `step()` returns when the instruction completes from `s`; none for a byte without an entry, whose step faults
(60_exceptions.md R304). -/
def cycleCost (i : Instr) (s : State) : Option Nat :=
  match encode i with
  | op :: sub :: _ => costOf op sub s.f
  | [op] => costOf op 0 s.f
  | [] => none

end Sys2Proof.Machine
end

