-- ==== Sys2Proof/Machine/HostApi.lean ====
section
/-! DEFINITION. What the host sees of the core: construction, the result of `step()`, and the read accessors (40_dispatch.md
R111, R112). -/

namespace Sys2Proof.Machine

/-- What `step()` returns (40_dispatch.md R112). -/
inductive StepReturn where
  /-- The instruction completed, with its cost in T-cycles (R105). -/
  | ok (cycles : Nat)
  /-- The dispatcher was Halted already (R107). -/
  | halted
  /-- The step raised this fault (60_exceptions.md R304). -/
  | fault (reason : Fault)
  deriving DecidableEq, Repr

/-- What `step()` returns from `s`; none where `s` is Faulted, since no step exists there (40_dispatch.md R110). -/
def stepReturn (s : State) : Option StepReturn :=
  match s.run with
  | .halted => some .halted
  | .faulted _ => none
  | .running =>
    match step s with
    | .next t =>
      match t.run with
      | .faulted r => some (.fault r)
      | _ => (cycleCost (fetchInstr s).1 s).map .ok
    | _ => none

/-- `is_halted()` (R112). -/
def isHalted (s : State) : Bool := decide (s.run = .halted)

/-- The read accessor of the full flags state (R112), as (Z, N, H, C). -/
def readFlags (s : State) : Bool × Bool × Bool × Bool := (flagZ s.f, flagN s.f, flagH s.f, flagC s.f)

/-- Construction from a Storage (R111): `none` is a Storage that could not supply its image, and then no state exists
(60_exceptions.md R303). -/
def construct (cfg : Config) (image : Option Memory) : Result :=
  match image with
  | some m => .next (State.powerOn cfg m)
  | none => .fault .storageLoad

/-- The code of a fault condition (60_exceptions.md R316). -/
def faultCode : Fault → Nat
  | .unimplementedOpcode _ _ => 1
  | .storageWrite _ _ => 2
  | .storageLoad => 3

/-- A run's end, as R115 defines it: Halted is success, Faulted is a fault, and Running is no end. -/
def runEnd (s : State) : Option (Option Fault) :=
  match s.run with
  | .running => none
  | .halted => some none
  | .faulted r => some (some r)

end Sys2Proof.Machine
end

