-- ==== Sys2Proof/Safety.lean ====
section
/-! DEFINITION. What counts as a well-formed state and a safe one, in the terms the statements use. -/

namespace Sys2Proof.Machine

/-- A recorded fault tells the truth: an unimplemented opcode is one of the eleven bytes of 30_encoding.md R86, a refused
store is one to a non-writable address under policy Fault (60_exceptions.md R301, R302), and no StorageLoadError is recorded
in a state (R303). -/
def faultRecordTrue (s : State) : Bool :=
  match s.run with
  | .running => true
  | .halted => true
  | .faulted (.unimplementedOpcode op _) => unassignedOpcodes.contains op
  | .faulted (.storageWrite addr _) => !writable s.cfg addr && decide (s.cfg.roWritePolicy = .fault)
  | .faulted .storageLoad => false

/-- The invariant of every state a run reaches: memory in canonical form, the low nibble of F zero (10_state.md R27), and a
truthful fault record. -/
abbrev State.Inv (s : State) : Prop :=
  s.mem.wf = true ∧ s.f &&& 0x0F = 0 ∧ faultRecordTrue s = true

/-- A safe state: no fault has ended the run. -/
abbrev State.Safe (s : State) : Prop := ∀ r, s.run ≠ .faulted r

/-- A store of this byte goes on: the address is writable, or the policy is to drop the store (20_memory.md R52, R53). -/
abbrev accepted (s : State) (addr : Word) : Prop :=
  writable s.cfg addr = true ∨ s.cfg.roWritePolicy = .ignore

/-- A store to this address faults (20_memory.md R53). -/
abbrev refused (s : State) (addr : Word) : Prop :=
  writable s.cfg addr = false ∧ s.cfg.roWritePolicy = .fault

end Sys2Proof.Machine
end

