-- ==== Sys2Proof/Certificates/Slice0/Obligations.lean ====
section
/-! DEFINITION. The statements for the provers, each a rule of spec/ or a property of the whole machine.

In a statement about an instruction, `s` is the state `exec` is given: the bytes of the instruction are fetched and `pc` is the
address after them (StepRunsTheDecodedInstruction). `exec i s = .next t` with `t` written as an update of `s` says the result and the
frame at once: every field the update does not name is as before. Where an instruction stores, memory is described byte by
byte: what every address reads as afterwards. The bytes of the instruction and its cost stand beside the effect. -/

open Sys2Proof Sys2Proof.Machine

namespace Sys2Proof.Statements

/-- `Z<<7 | N<<6 | H<<5 | C<<4`, bits 3:0 zero (41_alu.md R120). -/
def flagByte (z n h c : Bool) : Byte :=
  ((BitVec.ofBool z).setWidth 8 <<< 7) ||| ((BitVec.ofBool n).setWidth 8 <<< 6) |||
    ((BitVec.ofBool h).setWidth 8 <<< 5) ||| ((BitVec.ofBool c).setWidth 8 <<< 4)

/-- Bit `i` of F as it stands: 7 Z, 6 N, 5 H, 4 C (10_state.md R25). -/
abbrev fbit (s : State) (i : Nat) : Bool := s.f.getLsbD i

/-- The "holds when" column of 30_encoding.md R75. -/
def taken (cc : Cond) (s : State) : Bool :=
  match cc with
  | .nz => fbit s 7 == false
  | .z => fbit s 7 == true
  | .nc => fbit s 4 == false
  | .c => fbit s 4 == true

/-- What an address reads as after one store of `v` at `addr` that went on: `v` at `addr` where it is writable, and what it
was everywhere else (20_memory.md R52, R53). -/
abbrev afterStore (s : State) (addr : Word) (v : Byte) (x : Word) : Byte :=
  if x = addr ∧ writable s.cfg addr = true then v else s.mem.read x

/-- What an address reads as after a store of `v` at `addr` and then one of `w` at `addr'`. -/
abbrev afterStores (s : State) (addr : Word) (v : Byte) (addr' : Word) (w : Byte) (x : Word) : Byte :=
  if x = addr' ∧ writable s.cfg addr' = true then w else afterStore s addr v x

/-- Instruction `i` stores `v` at `addr` and then makes the update `after`: where the store is accepted, the next state is
`after` of `s` with that store in memory and nothing else changed; where it is refused, `s` with the fault recorded and nothing
else changed (20_memory.md R52, R53; 60_exceptions.md R302). -/
def StoresByte (i : Instr) (s : State) (addr : Word) (v : Byte) (after : State → State) : Prop :=
  (accepted s addr →
    ∃ m, exec i s = .next (after { s with mem := m }) ∧ m.wf = true ∧ ∀ x, m.read x = afterStore s addr v x) ∧
  (refused s addr → exec i s = .next { s with run := .faulted (.storageWrite addr v) })

/-- Instruction `i` stores `v` at `addr`, then `w` at `addr'`, then makes the update `after`; `mid` and `mid'` are what it has
done to the registers when each store is made (20_memory.md R64; 60_exceptions.md R302). -/
def StoresTwice (i : Instr) (s : State) (mid : State → State) (addr : Word) (v : Byte) (mid' : State → State)
    (addr' : Word) (w : Byte) (after : State → State) : Prop :=
  (accepted s addr → accepted s addr' →
    ∃ m, exec i s = .next (after { s with mem := m }) ∧ m.wf = true ∧ ∀ x, m.read x = afterStores s addr v addr' w x) ∧
  (refused s addr → exec i s = .next (mid { s with run := .faulted (.storageWrite addr v) })) ∧
  (accepted s addr → refused s addr' →
    ∃ m, exec i s = .next (mid' { s with mem := m, run := .faulted (.storageWrite addr' w) }) ∧ m.wf = true ∧
      ∀ x, m.read x = afterStore s addr v x)

/-- Instruction `i` pushes `v` and then makes the update `after`: `sp` goes down by 1 before each byte, the high byte first
(00_scope.md R13). -/
def Pushes (i : Instr) (s : State) (v : Word) (after : State → State) : Prop :=
  StoresTwice i s (fun t => { t with sp := s.sp - 1 }) (s.sp - 1) (v.extractLsb' 8 8)
    (fun t => { t with sp := s.sp - 2 }) (s.sp - 2) (v.extractLsb' 0 8) (fun t => after { t with sp := s.sp - 2 })

/-- The 8-bit ALU operation `op`, in its r, (HL) and n forms: A and F become `res` and `fl` of A, the second operand and the
carry, and nothing else changes. -/
def AluForms (op : AluOp) (field : BitVec 3) (res : Byte → Byte → Nat → Byte) (fl : Byte → Byte → Nat → Byte) : Prop :=
  ∀ (s : State) (o : Operand) (n : Byte),
    (encode (.alu op o) = [0b10#2 ++ field ++ o.code] ∧
      exec (.alu op o) s = .next { s with
        a := res s.a (s.operand o) (fbit s 4).toNat, f := fl s.a (s.operand o) (fbit s 4).toNat } ∧
      cycleCost (.alu op o) s = some (if o = .atHL then 8 else 4)) ∧
    (encode (.aluImm op n) = [0b11#2 ++ field ++ 0b110#3, n] ∧
      exec (.aluImm op n) s = .next { s with a := res s.a n (fbit s 4).toNat, f := fl s.a n (fbit s 4).toNat } ∧
      cycleCost (.aluImm op n) s = some 8)

/-- The CB rotate or shift `op`: its result, and the bit it shifts out (49_cb_prefix.md R271 to R286). -/
def shiftSpec (op : ShiftOp) (v : Byte) (carry : Bool) : Byte × Bool :=
  let c : Byte := (BitVec.ofBool carry).setWidth 8
  match op with
  | .rlc => (v.rotateLeft 1, v.getLsbD 7)
  | .rrc => (v.rotateRight 1, v.getLsbD 0)
  | .rl => (v <<< 1 ||| c, v.getLsbD 7)
  | .rr => (v >>> 1 ||| c <<< 7, v.getLsbD 0)
  | .sla => (v <<< 1, v.getLsbD 7)
  | .sra => (v.sshiftRight 1, v.getLsbD 0)
  | .swap => (v.rotateLeft 4, false)
  | .srl => (v >>> 1, v.getLsbD 0)

/-- The instructions that can store (60_exceptions.md R302), the prefix row among them, which runs any CB entry. -/
def mayStore : Instr → Bool
  | .ld_mHL_B | .ld_mHL_C | .ld_mHL_D | .ld_mHL_E | .ld_mHL_H | .ld_mHL_L | .ld_mHL_A | .ld_mHL_n _ => true
  | .ld_mBC_A | .ld_mDE_A | .ld_mnn_A _ | .ldh_mn_A _ | .ld_mC_A | .ld_mHLi_A | .ld_mHLd_A | .ld_mnn_SP _ => true
  | .inc_mHL | .dec_mHL => true
  | .push_BC | .push_DE | .push_HL | .push_AF => true
  | .call_nn _ | .call_NZ_nn _ | .call_Z_nn _ | .call_NC_nn _ | .call_C_nn _ => true
  | .rst_00h | .rst_08h | .rst_10h | .rst_18h | .rst_20h | .rst_28h | .rst_30h | .rst_38h => true
  | .rlc_mHL | .rrc_mHL | .rl_mHL | .rr_mHL | .sla_mHL | .sra_mHL | .swap_mHL | .srl_mHL => true
  | .res_0_mHL | .res_1_mHL | .res_2_mHL | .res_3_mHL | .res_4_mHL | .res_5_mHL | .res_6_mHL | .res_7_mHL => true
  | .set_0_mHL | .set_1_mHL | .set_2_mHL | .set_3_mHL | .set_4_mHL | .set_5_mHL | .set_6_mHL | .set_7_mHL => true
  | .prefix_CB _ => true
  | _ => false

/-- The first bytes of two-byte instructions (30_encoding.md R88). -/
def twoByteOpcodes : List Byte :=
  [0xCB, 0x10, 0x06, 0x0E, 0x16, 0x1E, 0x26, 0x2E, 0x36, 0x3E, 0x18, 0x20, 0x28, 0x30, 0x38, 0xC6, 0xCE, 0xD6, 0xDE, 0xE6,
    0xEE, 0xF6, 0xFE, 0xE0, 0xF0, 0xE8, 0xF8]

/-- The first bytes of three-byte instructions (30_encoding.md R88). -/
def threeByteOpcodes : List Byte :=
  [0x01, 0x11, 0x21, 0x31, 0x08, 0xC2, 0xC3, 0xC4, 0xCA, 0xCC, 0xCD, 0xD2, 0xD4, 0xDA, 0xDC, 0xEA, 0xFA]

/-- Two states that differ at most in `ime` and `eiPending`. -/
def SameButInterrupts (s t : State) : Prop := { s with ime := t.ime, eiPending := t.eiPending } = t

end Sys2Proof.Statements

open Sys2Proof.Statements

/-! ## Power-on, the step, and the run states -/

/-- R36, R330: the power-on values, for every Storage image and every configuration. -/
def Obligations.PowerOnValues : Prop :=
  ∀ (cfg : Config) (image : Memory), ∃ s, State.powerOn cfg image = s ∧
    s.a = 0x05 ∧ s.b = 0x09 ∧ s.c = 0x00 ∧ s.d = 0x00 ∧ s.e = 0x00 ∧ s.h = 0x00 ∧ s.l = 0x01 ∧ s.f = 0x00 ∧
    s.sp = 0xFFFE ∧ s.pc = 0x0000 ∧ s.run = .running ∧ s.ime = false ∧ s.eiPending = false ∧ s.mem = image

/-- R111, R303, R316: construction gives the power-on state, or fails with StorageLoadError and no state; and the codes of
the three conditions. -/
def Obligations.ConstructionAndFaultCodes : Prop :=
  ∀ (cfg : Config) (image : Memory) (op : Byte) (w : Word) (v : Byte),
    construct cfg (some image) = .next (State.powerOn cfg image) ∧ construct cfg none = .fault .storageLoad ∧
    faultCode (.unimplementedOpcode op w) = 1 ∧ faultCode (.storageWrite w v) = 2 ∧ faultCode .storageLoad = 3

/-- The machine's reset is the power-on of the model's own default image and configuration (DESIGN CHOICE, log entries 1 and
2), and it has the invariant. -/
def Obligations.ResetHasTheInvariant : Prop :=
  State.reset = State.powerOn { readOnly := [], roWritePolicy := .ignore, rlCarryIn := false } [] ∧ State.reset.Inv

/-- The invariant: canonical memory, the low nibble of F zero, a truthful fault record. -/
def Obligations.StepKeepsTheInvariant : Prop :=
  ∀ s t : State, s.Inv → step s = .next t → t.Inv

/-- R27: the low nibble of F is 0 at power-on and every step keeps it 0. -/
def Obligations.LowNibbleOfFStaysZero : Prop :=
  (∀ cfg image, (State.powerOn cfg image).f &&& 0x0F = 0) ∧
    ∀ s t : State, s.f &&& 0x0F = 0 → step s = .next t → t.f &&& 0x0F = 0

/-- A step of a running machine whose bytes at `pc` decode to `i` is `exec i` with `pc` past the bytes of `i`, followed by
the EI delay `finishStep` (EiDelayResolvesAfterCompletion says what that is). -/
def Obligations.StepRunsTheDecodedInstruction : Prop :=
  ∀ (s : State) (i : Instr) (rest : List Byte), s.run = .running →
    decode [s.mem.read s.pc, s.mem.read (s.pc + 1), s.mem.read (s.pc + 2)] = .ok (i, rest) →
    i.WellFormed = true ∧
      step s = finishStep s.eiPending (exec i { s with pc := s.pc + BitVec.ofNat 16 (encode i).length })

/-- R109: the EI delay resolves at the end of a completed instruction, exactly when `ei_pending` was 1 at its beginning and
still is; a faulting step leaves it. -/
def Obligations.EiDelayResolvesAfterCompletion : Prop :=
  ∀ (was : Bool) (u : State),
    (u.Safe → was = true → u.eiPending = true →
      finishStep was (.next u) = .next { u with ime := true, eiPending := false }) ∧
    (u.Safe → (was = false ∨ u.eiPending = false) → finishStep was (.next u) = .next u) ∧
    (∀ r, u.run = .faulted r → finishStep was (.next u) = .next u)

/-- R107, R110: a step while Halted changes nothing and returns Halted, for however many steps; Faulted has no successor. -/
def Obligations.TerminalRunStates : Prop :=
  ∀ s : State,
    (s.run = .halted → stepReturn s = some .halted ∧ ∀ k, Host.Core.run Sys2Proof.core k s = .next s) ∧
    (∀ r, s.run = .faulted r → ∀ t, step s ≠ .next t)

/-- R301: a step that fetches one of the eleven bytes of R86 enters Faulted with `pc` one further, nothing else changed, and
the record is the byte and its address; no other byte raises the fault. -/
def Obligations.UnassignedOpcodeFaults : Prop :=
  (∀ s : State, s.run = .running → s.mem.read s.pc ∈ unassignedOpcodes →
    step s = .next { s with pc := s.pc + 1, run := .faulted (.unimplementedOpcode (s.mem.read s.pc) s.pc) } ∧
    stepReturn s = some (.fault (.unimplementedOpcode (s.mem.read s.pc) s.pc))) ∧
  (∀ (s t : State) (op : Byte) (p : Word), s.run = .running → step s = .next t →
    t.run = .faulted (.unimplementedOpcode op p) → op ∈ unassignedOpcodes ∧ op = s.mem.read s.pc ∧ p = s.pc) ∧
  (∀ (s : State) (op : Byte),
    encode (.no_entry op) = [op] ∧ (op ∈ unassignedOpcodes → cycleCost (.no_entry op) s = none) ∧
    exec (.no_entry op) s = .next { s with run := .faulted (.unimplementedOpcode op (s.pc - 1)) })

/-- R110, R304: every instruction has a next state from every state, and a step fails to have one only in Faulted. -/
def Obligations.NoStepIsRefused : Prop :=
  (∀ (i : Instr) (s : State), ∃ t, exec i s = .next t) ∧
    ∀ s : State, (∃ t, step s = .next t) ∨ ∃ r, s.run = .faulted r ∧ step s = .fault r

/-- R115, R315: only HALT and STOP lead to Halted. -/
def Obligations.OnlyHaltAndStopHalt : Prop :=
  ∀ s t : State, s.run = .running → step s = .next t → t.run = .halted →
    (fetchInstr s).1 = .halt ∨ ∃ x, (fetchInstr s).1 = .stop x

/-- R105, R112, R304: what `step()` returns. -/
def Obligations.StepReturnsCostOrFault : Prop :=
  ∀ s t : State, s.run = .running → step s = .next t →
    (∀ r, t.run = .faulted r → stepReturn s = some (.fault r)) ∧
    (t.Safe → ∃ n, cycleCost (fetchInstr s).1 s = some n ∧ 4 ≤ n ∧ n ≤ 24 ∧ stepReturn s = some (.ok n))

/-- R35: the configuration is no state: no step changes it. -/
def Obligations.ConfigurationNeverChanges : Prop :=
  ∀ s t : State, step s = .next t → t.cfg = s.cfg

/-- R52, R53: no step changes a byte the bus may not write. -/
def Obligations.ReadOnlyBytesNeverChange : Prop :=
  ∀ (s t : State) (x : Word), writable s.cfg x = false → step s = .next t → t.mem.read x = s.mem.read x

/-- R302: an instruction outside the list of those that can store leaves every byte of memory as it was and raises no
StorageWriteFault. -/
def Obligations.OnlyStoringInstructionsTouchMemory : Prop :=
  ∀ (i : Instr) (s t : State), mayStore i = false → exec i s = .next t →
    t.mem = s.mem ∧ ∀ addr v, t.run = .faulted (.storageWrite addr v) → s.run = .faulted (.storageWrite addr v)

/-- R33: nothing reads `ime` or `ei_pending`: states that differ only there step to states that differ only there. -/
def Obligations.InterruptBitsAreUnobservable : Prop :=
  ∀ s s' : State, SameButInterrupts s s' →
    (∀ t, step s = .next t → ∃ t', step s' = .next t' ∧ SameButInterrupts t t') ∧
    (∀ r, step s = .fault r → step s' = .fault r) ∧ stepReturn s = stepReturn s'

/-- R10, R182, R183: `RL_CARRY_IN` is read by RLA and RRA alone. -/
def Obligations.CarryInParameterReachesOnlyRlaRra : Prop :=
  ∀ (i : Instr) (s t : State) (b : Bool), i ≠ .rla → i ≠ .rra → exec i s = .next t →
    exec i { s with cfg := { s.cfg with rlCarryIn := b } } = .next { t with cfg := { t.cfg with rlCarryIn := b } }

/-! ## Encoding -/

/-- Every well-formed instruction is read back from its bytes, whatever follows them. -/
def Obligations.DecodeOfEncode : Prop :=
  ∀ (i : Instr) (rest : List Byte), i.WellFormed = true → decode (encode i ++ rest) = .ok (i, rest)

/-- Every bytes read as an instruction are that instruction's bytes, and it is well-formed. -/
def Obligations.EncodeOfDecode : Prop :=
  ∀ (bs rest : List Byte) (i : Instr), decode bs = .ok (i, rest) → i.WellFormed = true ∧ encode i ++ rest = bs

/-- R88: an instruction's length is found from its first byte; of a byte without an entry only that byte is fetched. -/
def Obligations.LengthFromTheFirstByte : Prop :=
  ∀ op b1 b2 : Byte, (decode3 op b1 b2).2 =
    if op ∈ threeByteOpcodes then 3 else if op ∈ twoByteOpcodes then 2 else 1

/-- R83 to R86, R91: words written out from the spec's map. -/
def Obligations.SpecWordsDecode : Prop :=
  decode [0x06, 0x2A] = .ok (.ld_B_n 0x2A, []) ∧ decode [0x76] = .ok (.halt, []) ∧
  decode [0x01, 0x34, 0x12] = .ok (.ld_BC_nn 0x1234, []) ∧ decode [0x08, 0x00, 0xC1] = .ok (.ld_mnn_SP 0xC100, []) ∧
  decode [0x84] = .ok (.add_A_H, []) ∧ decode [0xDC, 0x34, 0x12] = .ok (.call_C_nn 0x1234, []) ∧
  decode [0x10, 0x5A] = .ok (.stop 0x5A, []) ∧ decode [0xED, 0x00] = .ok (.no_entry 0xED, [0x00]) ∧
  decode [0xCB, 0x37] = .ok (.swap_A, []) ∧ decode [0xCB, 0x7C] = .ok (.bit_7_H, []) ∧
  decode [0xCB, 0xFE] = .ok (.set_7_mHL, [])

/-- R270, R80: the prefix row (a constructor of its own, the model's choice, log entry 7) runs the CB table's entry of its
sub-opcode, which is the operation of the fields g, y and z; and it completes. -/
def Obligations.CbDispatchByFields : Prop :=
  (∀ (s : State) (sub : Byte), exec (.prefix_CB sub) s = exec (cbEntry sub) s ∧ ∃ t, exec (.prefix_CB sub) s = .next t) ∧
  (∀ (op : ShiftOp) (o : Operand), cbEntry (0b00#2 ++ op.code ++ o.code) = .shift op o) ∧
  (∀ (b : Index3) (o : Operand), cbEntry (0b01#2 ++ b.code ++ o.code) = .bitOp b o ∧
    cbEntry (0b10#2 ++ b.code ++ o.code) = .resOp b o ∧ cbEntry (0b11#2 ++ b.code ++ o.code) = .setOp b o)

/-! ## Memory and the pair views -/

/-- R61, R52: a byte reads as the last value written to it, and a write changes no other byte. -/
def Obligations.ReadAfterWrite : Prop :=
  ∀ (m : Memory) (addr : Word) (v : Byte), m.wf = true →
    (m.write addr v).read addr = v ∧ ∀ x, x ≠ addr → (m.write addr v).read x = m.read x

/-- R22, R23: a pair is its two halves, and a pair reads as the value last written; AF loses the low nibble. -/
def Obligations.PairViews : Prop :=
  ∀ (s : State) (v : Word),
    (s.bc = s.b ++ s.c ∧ s.de = s.d ++ s.e ∧ s.hl = s.h ++ s.l ∧ s.af = s.a ++ s.f) ∧
    ((s.setBC v).bc = v ∧ (s.setDE v).de = v ∧ (s.setHL v).hl = v ∧ (s.setAF v).af = v &&& 0xFFF0) ∧
    s.setBC v = { s with b := v.extractLsb' 8 8, c := v.extractLsb' 0 8 } ∧
    s.setDE v = { s with d := v.extractLsb' 8 8, e := v.extractLsb' 0 8 } ∧
    s.setHL v = { s with h := v.extractLsb' 8 8, l := v.extractLsb' 0 8 } ∧
    s.setAF v = { s with a := v.extractLsb' 8 8, f := v.extractLsb' 0 8 &&& 0xF0 }

/-! ## 8-bit arithmetic and logic -/

/-- R150 to R155, R121, R122. -/
def Obligations.AddAndAddWithCarry : Prop :=
  AluForms .add 0b000 (fun x y _ => BitVec.ofNat 8 (x.toNat + y.toNat))
    (fun x y _ => flagByte (BitVec.ofNat 8 (x.toNat + y.toNat) == 0) false
      (decide (x.toNat % 16 + y.toNat % 16 > 15)) (decide (x.toNat + y.toNat > 255))) ∧
  AluForms .adc 0b001 (fun x y c => BitVec.ofNat 8 (x.toNat + y.toNat + c))
    (fun x y c => flagByte (BitVec.ofNat 8 (x.toNat + y.toNat + c) == 0) false
      (decide (x.toNat % 16 + y.toNat % 16 + c > 15)) (decide (x.toNat + y.toNat + c > 255)))

/-- R156 to R161, R123, R124. -/
def Obligations.SubtractAndSubtractWithCarry : Prop :=
  AluForms .sub 0b010 (fun x y _ => x - y)
    (fun x y _ => flagByte (x - y == 0) true (decide (x.toNat % 16 < y.toNat % 16)) (decide (x.toNat < y.toNat))) ∧
  AluForms .sbc 0b011 (fun x y c => x - y - BitVec.ofNat 8 c)
    (fun x y c => flagByte (x - y - BitVec.ofNat 8 c == 0) true
      (decide (x.toNat % 16 < y.toNat % 16 + c)) (decide (x.toNat < y.toNat + c)))

/-- R171 to R173, R125: the flags of SUB, and A keeps its value. -/
def Obligations.CompareKeepsTheAccumulator : Prop :=
  AluForms .cp 0b111 (fun x _ _ => x)
    (fun x y _ => flagByte (x == y) true (decide (x.toNat % 16 < y.toNat % 16)) (decide (x.toNat < y.toNat)))

/-- R162 to R170, R126 to R128. -/
def Obligations.AndXorOr : Prop :=
  AluForms .and 0b100 (fun x y _ => x &&& y) (fun x y _ => flagByte (x &&& y == 0) false true false) ∧
  AluForms .xor 0b101 (fun x y _ => x ^^^ y) (fun x y _ => flagByte (x ^^^ y == 0) false false false) ∧
  AluForms .or 0b110 (fun x y _ => x ||| y) (fun x y _ => flagByte (x ||| y == 0) false false false)

/-- R174, R176, R129, R130: C is unchanged. -/
def Obligations.IncAndDecRegister : Prop :=
  ∀ (s : State) (r : Reg8),
    (encode (.incOp (.reg r)) = [0b00#2 ++ r.code ++ 0b100#3] ∧
      exec (.incOp (.reg r)) s = .next { s.setReg r (s.reg r + 1) with
        f := flagByte (s.reg r + 1 == 0) false (decide ((s.reg r).toNat % 16 = 15)) (fbit s 4) } ∧
      cycleCost (.incOp (.reg r)) s = some 4) ∧
    (encode (.decOp (.reg r)) = [0b00#2 ++ r.code ++ 0b101#3] ∧
      exec (.decOp (.reg r)) s = .next { s.setReg r (s.reg r - 1) with
        f := flagByte (s.reg r - 1 == 0) true (decide ((s.reg r).toNat % 16 = 0)) (fbit s 4) } ∧
      cycleCost (.decOp (.reg r)) s = some 4)

/-- R175, R177: the store, then F; a refused store leaves F. -/
def Obligations.IncAndDecMemory : Prop :=
  ∀ (s : State) (v : Byte), s.mem.wf = true → v = s.mem.read (s.h ++ s.l) →
    (encode .inc_mHL = [0x34] ∧ cycleCost .inc_mHL s = some 12 ∧
      StoresByte .inc_mHL s (s.h ++ s.l) (v + 1)
        fun t => { t with f := flagByte (v + 1 == 0) false (decide (v.toNat % 16 = 15)) (fbit s 4) }) ∧
    (encode .dec_mHL = [0x35] ∧ cycleCost .dec_mHL s = some 12 ∧
      StoresByte .dec_mHL s (s.h ++ s.l) (v - 1)
        fun t => { t with f := flagByte (v - 1 == 0) true (decide (v.toNat % 16 = 0)) (fbit s 4) })

/-! ## Accumulator rotates and miscellaneous -/

/-- R180, R181, R131, R132: Z is 0 whatever the result. -/
def Obligations.CircularAccumulatorRotates : Prop :=
  ∀ s : State,
    (encode .rlca = [0x07] ∧ cycleCost .rlca s = some 4 ∧
      exec .rlca s = .next { s with a := s.a.rotateLeft 1, f := flagByte false false false (s.a.getLsbD 7) }) ∧
    (encode .rrca = [0x0F] ∧ cycleCost .rrca s = some 4 ∧
      exec .rrca s = .next { s with a := s.a.rotateRight 1, f := flagByte false false false (s.a.getLsbD 0) })

/-- R182, R183, R133, R134: with `RL_CARRY_IN = false` the plain rotate, with `true` the rotate through the carry. -/
def Obligations.AccumulatorRotatesByParameter : Prop :=
  ∀ s : State,
    (encode .rla = [0x17] ∧ cycleCost .rla s = some 4 ∧
      exec .rla s = .next { s with
        a := if s.cfg.rlCarryIn then s.a <<< 1 ||| (BitVec.ofBool (fbit s 4)).setWidth 8 else s.a.rotateLeft 1
        f := flagByte false false false (s.a.getLsbD 7) }) ∧
    (encode .rra = [0x1F] ∧ cycleCost .rra s = some 4 ∧
      exec .rra s = .next { s with
        a := if s.cfg.rlCarryIn then s.a >>> 1 ||| (BitVec.ofBool (fbit s 4)).setWidth 8 <<< 7 else s.a.rotateRight 1
        f := flagByte false false false (s.a.getLsbD 0) })

/-- R184, R135: the two corrections, added after an addition and subtracted after a subtraction. -/
def Obligations.DecimalAdjust : Prop :=
  ∀ (s : State) (six sixty : Bool),
    six = (fbit s 5 || (!fbit s 6 && decide (s.a.toNat % 16 > 9))) →
    sixty = (fbit s 4 || (!fbit s 6 && decide (s.a.toNat > 0x99))) →
    encode .daa = [0x27] ∧ cycleCost .daa s = some 4 ∧
    ∃ r : Byte, r = (if fbit s 6 then s.a - BitVec.ofNat 8 (0x06 * six.toNat + 0x60 * sixty.toNat)
        else s.a + BitVec.ofNat 8 (0x06 * six.toNat + 0x60 * sixty.toNat)) ∧
      exec .daa s = .next { s with a := r, f := flagByte (r == 0) (fbit s 6) false sixty }

/-- R185 to R187, R136. -/
def Obligations.ComplementAndCarryFlag : Prop :=
  ∀ s : State,
    (encode .cpl = [0x2F] ∧ cycleCost .cpl s = some 4 ∧
      exec .cpl s = .next { s with a := ~~~s.a, f := flagByte (fbit s 7) true true (fbit s 4) }) ∧
    (encode .scf = [0x37] ∧ cycleCost .scf s = some 4 ∧
      exec .scf s = .next { s with f := flagByte (fbit s 7) false false true }) ∧
    (encode .ccf = [0x3F] ∧ cycleCost .ccf s = some 4 ∧
      exec .ccf s = .next { s with f := flagByte (fbit s 7) false false (!fbit s 4) })

/-! ## 8-bit loads and stores -/

/-- R190 to R192: the destination register alone changes; the address is the one before the load. -/
def Obligations.LoadRegister : Prop :=
  ∀ (s : State) (r q : Reg8) (n : Byte),
    (encode (.ldRegReg r q) = [0b01#2 ++ r.code ++ q.code] ∧ cycleCost (.ldRegReg r q) s = some 4 ∧
      exec (.ldRegReg r q) s = .next (s.setReg r (s.reg q))) ∧
    (encode (.ldRegImm r n) = [0b00#2 ++ r.code ++ 0b110#3, n] ∧ cycleCost (.ldRegImm r n) s = some 8 ∧
      exec (.ldRegImm r n) s = .next (s.setReg r n)) ∧
    (encode (.ldRegHL r) = [0b01#2 ++ r.code ++ 0b110#3] ∧ cycleCost (.ldRegHL r) s = some 8 ∧
      exec (.ldRegHL r) s = .next (s.setReg r (s.mem.read (s.h ++ s.l)))) ∧
    (∀ (v : Byte) (x : Reg8), (s.setReg r v).reg x = if x = r then v else s.reg x)

/-- R195, R196, R199, R201, R203, R205, R206: A from each address, and HL stepped by 1 in the last two. -/
def Obligations.LoadAccumulator : Prop :=
  ∀ (s : State) (n : Byte) (nn : Word),
    (encode .ld_A_mBC = [0x0A] ∧ cycleCost .ld_A_mBC s = some 8 ∧
      exec .ld_A_mBC s = .next { s with a := s.mem.read (s.b ++ s.c) }) ∧
    (encode .ld_A_mDE = [0x1A] ∧ cycleCost .ld_A_mDE s = some 8 ∧
      exec .ld_A_mDE s = .next { s with a := s.mem.read (s.d ++ s.e) }) ∧
    (encode (.ld_A_mnn nn) = [0xFA, nn.extractLsb' 0 8, nn.extractLsb' 8 8] ∧ cycleCost (.ld_A_mnn nn) s = some 16 ∧
      exec (.ld_A_mnn nn) s = .next { s with a := s.mem.read nn }) ∧
    (encode (.ldh_A_mn n) = [0xF0, n] ∧ cycleCost (.ldh_A_mn n) s = some 12 ∧
      exec (.ldh_A_mn n) s = .next { s with a := s.mem.read (0xFF#8 ++ n) }) ∧
    (encode .ld_A_mC = [0xF2] ∧ cycleCost .ld_A_mC s = some 8 ∧
      exec .ld_A_mC s = .next { s with a := s.mem.read (0xFF#8 ++ s.c) }) ∧
    (encode .ld_A_mHLi = [0x2A] ∧ cycleCost .ld_A_mHLi s = some 8 ∧
      exec .ld_A_mHLi s = .next { s with
        a := s.mem.read (s.h ++ s.l)
        h := ((s.h ++ s.l : Word) + 1).extractLsb' 8 8, l := ((s.h ++ s.l : Word) + 1).extractLsb' 0 8 }) ∧
    (encode .ld_A_mHLd = [0x3A] ∧ cycleCost .ld_A_mHLd s = some 8 ∧
      exec .ld_A_mHLd s = .next { s with
        a := s.mem.read (s.h ++ s.l)
        h := ((s.h ++ s.l : Word) - 1).extractLsb' 8 8, l := ((s.h ++ s.l : Word) - 1).extractLsb' 0 8 })

/-- R193, R194. -/
def Obligations.StoreAtHL : Prop :=
  ∀ (s : State) (r : Reg8) (n : Byte), s.mem.wf = true →
    (encode (.ldHLReg r) = [0b01110#5 ++ r.code] ∧ cycleCost (.ldHLReg r) s = some 8 ∧
      StoresByte (.ldHLReg r) s (s.h ++ s.l) (s.reg r) id) ∧
    (encode (.ld_mHL_n n) = [0x36, n] ∧ cycleCost (.ld_mHL_n n) s = some 12 ∧
      StoresByte (.ld_mHL_n n) s (s.h ++ s.l) n id)

/-- R197, R198, R200, R202, R204: A to each address. -/
def Obligations.StoreAccumulator : Prop :=
  ∀ (s : State) (n : Byte) (nn : Word), s.mem.wf = true →
    (encode .ld_mBC_A = [0x02] ∧ cycleCost .ld_mBC_A s = some 8 ∧ StoresByte .ld_mBC_A s (s.b ++ s.c) s.a id) ∧
    (encode .ld_mDE_A = [0x12] ∧ cycleCost .ld_mDE_A s = some 8 ∧ StoresByte .ld_mDE_A s (s.d ++ s.e) s.a id) ∧
    (encode (.ld_mnn_A nn) = [0xEA, nn.extractLsb' 0 8, nn.extractLsb' 8 8] ∧ cycleCost (.ld_mnn_A nn) s = some 16 ∧
      StoresByte (.ld_mnn_A nn) s nn s.a id) ∧
    (encode (.ldh_mn_A n) = [0xE0, n] ∧ cycleCost (.ldh_mn_A n) s = some 12 ∧
      StoresByte (.ldh_mn_A n) s (0xFF#8 ++ n) s.a id) ∧
    (encode .ld_mC_A = [0xE2] ∧ cycleCost .ld_mC_A s = some 8 ∧ StoresByte .ld_mC_A s (0xFF#8 ++ s.c) s.a id)

/-- R207, R208: the store, then HL stepped by 1; a refused store leaves HL. -/
def Obligations.StoreAccumulatorSteppingHL : Prop :=
  ∀ (s : State) (up down : Word), s.mem.wf = true → up = (s.h ++ s.l : Word) + 1 → down = (s.h ++ s.l : Word) - 1 →
    (encode .ld_mHLi_A = [0x22] ∧ cycleCost .ld_mHLi_A s = some 8 ∧
      StoresByte .ld_mHLi_A s (s.h ++ s.l) s.a
        fun t => { t with h := up.extractLsb' 8 8, l := up.extractLsb' 0 8 }) ∧
    (encode .ld_mHLd_A = [0x32] ∧ cycleCost .ld_mHLd_A s = some 8 ∧
      StoresByte .ld_mHLd_A s (s.h ++ s.l) s.a
        fun t => { t with h := down.extractLsb' 8 8, l := down.extractLsb' 0 8 })

/-! ## 16-bit loads, the stack and 16-bit arithmetic -/

/-- R220, R222, R231, R232: the pair alone is written (PairViews says how) and no flag. -/
def Obligations.PairLoadsAndSteps : Prop :=
  ∀ (s : State) (p : PairSP) (nn : Word),
    (encode (.ldPairImm p nn) = [0b00#2 ++ p.code ++ 0b0001#4, nn.extractLsb' 0 8, nn.extractLsb' 8 8] ∧
      cycleCost (.ldPairImm p nn) s = some 12 ∧ exec (.ldPairImm p nn) s = .next (s.setPair p nn)) ∧
    (encode (.incPair p) = [0b00#2 ++ p.code ++ 0b0011#4] ∧ cycleCost (.incPair p) s = some 8 ∧
      exec (.incPair p) s = .next (s.setPair p (s.pair p + 1))) ∧
    (encode (.decPair p) = [0b00#2 ++ p.code ++ 0b1011#4] ∧ cycleCost (.decPair p) s = some 8 ∧
      exec (.decPair p) s = .next (s.setPair p (s.pair p - 1))) ∧
    (encode .ld_SP_HL = [0xF9] ∧ cycleCost .ld_SP_HL s = some 8 ∧
      exec .ld_SP_HL s = .next { s with sp := s.h ++ s.l }) ∧
    (s.setPair .bc nn = s.setBC nn ∧ s.setPair .de nn = s.setDE nn ∧ s.setPair .hl nn = s.setHL nn ∧
      s.setPair .sp nn = { s with sp := nn })

/-- R221: the low byte at `nn`, then the high byte at `nn + 1`; the first stands when the second is refused. -/
def Obligations.StoreStackPointer : Prop :=
  ∀ (s : State) (nn : Word), s.mem.wf = true →
    encode (.ld_mnn_SP nn) = [0x08, nn.extractLsb' 0 8, nn.extractLsb' 8 8] ∧ cycleCost (.ld_mnn_SP nn) s = some 20 ∧
    StoresTwice (.ld_mnn_SP nn) s id nn (s.sp.extractLsb' 0 8) id (nn + 1) (s.sp.extractLsb' 8 8) id

/-- R223: the pair's bytes below `sp`. -/
def Obligations.PushStoresThePair : Prop :=
  ∀ (s : State) (p : PairAF), s.mem.wf = true →
    encode (.push p) = [0b11#2 ++ p.code ++ 0b0101#4] ∧ cycleCost (.push p) s = some 16 ∧
    Pushes (.push p) s (match p with
      | .bc => s.b ++ s.c
      | .de => s.d ++ s.e
      | .hl => s.h ++ s.l
      | .af => s.a ++ s.f) id

/-- R224: the low byte from `sp`, the high byte from `sp + 1`; F takes the low byte without its low nibble. -/
def Obligations.PopLoadsThePair : Prop :=
  ∀ (s : State) (p : PairAF) (hi lo : Byte), lo = s.mem.read s.sp → hi = s.mem.read (s.sp + 1) →
    encode (.pop p) = [0b11#2 ++ p.code ++ 0b0001#4] ∧ cycleCost (.pop p) s = some 12 ∧
    exec (.pop p) s = .next (match p with
      | .bc => { s with b := hi, c := lo, sp := s.sp + 2 }
      | .de => { s with d := hi, e := lo, sp := s.sp + 2 }
      | .hl => { s with h := hi, l := lo, sp := s.sp + 2 }
      | .af => { s with a := hi, f := lo &&& 0xF0, sp := s.sp + 2 })

/-- R225, R233, R141: the flags are those of the low byte plus the unsigned `e`. -/
def Obligations.StackPointerPlusOffset : Prop :=
  ∀ (s : State) (e fl : Byte) (sum : Word), sum = s.sp + BitVec.ofInt 16 e.toInt →
    fl = flagByte false false (decide (s.sp.toNat % 16 + e.toNat % 16 > 15))
      (decide (s.sp.toNat % 256 + e.toNat > 255)) →
    (encode (.ld_HL_SPe e) = [0xF8, e] ∧ cycleCost (.ld_HL_SPe e) s = some 12 ∧
      exec (.ld_HL_SPe e) s = .next { s with h := sum.extractLsb' 8 8, l := sum.extractLsb' 0 8, f := fl }) ∧
    (encode (.add_SP_e e) = [0xE8, e] ∧ cycleCost (.add_SP_e e) s = some 16 ∧
      exec (.add_SP_e e) s = .next { s with sp := sum, f := fl })

/-- R230, R140: Z is unchanged, H is the carry out of bit 11, C out of bit 15. -/
def Obligations.AddPairToHL : Prop :=
  ∀ (s : State) (p : PairSP) (hl sum : Word), hl = s.h ++ s.l → sum = hl + s.pair p →
    encode (.addHLPair p) = [0b00#2 ++ p.code ++ 0b1001#4] ∧ cycleCost (.addHLPair p) s = some 8 ∧
    exec (.addHLPair p) s = .next { s with
      h := sum.extractLsb' 8 8, l := sum.extractLsb' 0 8
      f := flagByte (fbit s 7) false (decide (hl.toNat % 4096 + (s.pair p).toNat % 4096 > 4095))
        (decide (hl.toNat + (s.pair p).toNat > 65535)) }

/-! ## Control transfer -/

/-- R240 to R242. -/
def Obligations.AbsoluteJumps : Prop :=
  ∀ (s : State) (cc : Cond) (nn : Word),
    (encode (.jp_nn nn) = [0xC3, nn.extractLsb' 0 8, nn.extractLsb' 8 8] ∧ cycleCost (.jp_nn nn) s = some 16 ∧
      exec (.jp_nn nn) s = .next { s with pc := nn }) ∧
    (encode (.jpIf cc nn) = [0b110#3 ++ cc.code ++ 0b010#3, nn.extractLsb' 0 8, nn.extractLsb' 8 8] ∧
      cycleCost (.jpIf cc nn) s = some (if taken cc s then 16 else 12) ∧
      exec (.jpIf cc nn) s = .next (if taken cc s then { s with pc := nn } else s)) ∧
    (encode .jp_HL = [0xE9] ∧ cycleCost .jp_HL s = some 4 ∧ exec .jp_HL s = .next { s with pc := s.h ++ s.l })

/-- R243, R244: the displacement is added to the address after the instruction. -/
def Obligations.RelativeJumps : Prop :=
  ∀ (s : State) (cc : Cond) (e : Byte),
    (encode (.jr_e e) = [0x18, e] ∧ cycleCost (.jr_e e) s = some 12 ∧
      exec (.jr_e e) s = .next { s with pc := s.pc + BitVec.ofInt 16 e.toInt }) ∧
    (encode (.jrIf cc e) = [0b001#3 ++ cc.code ++ 0b000#3, e] ∧
      cycleCost (.jrIf cc e) s = some (if taken cc s then 12 else 8) ∧
      exec (.jrIf cc e) s = .next (if taken cc s then { s with pc := s.pc + BitVec.ofInt 16 e.toInt } else s))

/-- R245, R246, R250: the address after the instruction is pushed, then `pc` is the target; a refused store leaves `pc`. -/
def Obligations.CallsAndRestarts : Prop :=
  ∀ (s : State) (cc : Cond) (nn : Word) (t : Index3), s.mem.wf = true →
    (encode (.call_nn nn) = [0xCD, nn.extractLsb' 0 8, nn.extractLsb' 8 8] ∧ cycleCost (.call_nn nn) s = some 24 ∧
      Pushes (.call_nn nn) s s.pc fun u => { u with pc := nn }) ∧
    (encode (.callIf cc nn) = [0b110#3 ++ cc.code ++ 0b100#3, nn.extractLsb' 0 8, nn.extractLsb' 8 8] ∧
      cycleCost (.callIf cc nn) s = some (if taken cc s then 24 else 12) ∧
      (taken cc s = true → Pushes (.callIf cc nn) s s.pc fun u => { u with pc := nn }) ∧
      (taken cc s = false → exec (.callIf cc nn) s = .next s)) ∧
    (encode (.rst t) = [0b11#2 ++ t.code ++ 0b111#3] ∧ cycleCost (.rst t) s = some 16 ∧
      Pushes (.rst t) s s.pc fun u => { u with pc := BitVec.ofNat 16 (t.val * 8) })

/-- R247 to R249: RETI sets `ime` at once and leaves `ei_pending`. -/
def Obligations.Returns : Prop :=
  ∀ (s : State) (cc : Cond) (back : Word), back = s.mem.read (s.sp + 1) ++ s.mem.read s.sp →
    (encode .ret = [0xC9] ∧ cycleCost .ret s = some 16 ∧
      exec .ret s = .next { s with pc := back, sp := s.sp + 2 }) ∧
    (encode (.retIf cc) = [0b110#3 ++ cc.code ++ 0b000#3] ∧
      cycleCost (.retIf cc) s = some (if taken cc s then 20 else 8) ∧
      exec (.retIf cc) s = .next (if taken cc s then { s with pc := back, sp := s.sp + 2 } else s)) ∧
    (encode .reti = [0xD9] ∧ cycleCost .reti s = some 16 ∧
      exec .reti s = .next { s with pc := back, sp := s.sp + 2, ime := true })

/-- CALL and then RET come back to the address after the CALL with `sp` as it was, where both stack bytes are writable. -/
def Obligations.CallThenReturnComesBack : Prop :=
  ∀ (s : State) (nn : Word), s.mem.wf = true → writable s.cfg (s.sp - 1) = true → writable s.cfg (s.sp - 2) = true →
    ∃ t u, exec (.call_nn nn) s = .next t ∧ t.pc = nn ∧ exec .ret t = .next u ∧ u.pc = s.pc ∧ u.sp = s.sp

/-- PUSH and then POP of the same pair give the pair back, where both stack bytes are writable and F has its form. -/
def Obligations.PushThenPopGivesThePairBack : Prop :=
  ∀ (s : State) (p : PairAF), s.mem.wf = true → s.f &&& 0x0F = 0 →
    writable s.cfg (s.sp - 1) = true → writable s.cfg (s.sp - 2) = true →
    ∃ t, exec (.push p) s = .next t ∧ exec (.pop p) t = .next { s with mem := t.mem }

/-! ## System and control -/

/-- R260 to R262. -/
def Obligations.NopHaltStop : Prop :=
  ∀ (s : State) (x : Byte),
    (encode .nop = [0x00] ∧ cycleCost .nop s = some 4 ∧ exec .nop s = .next s) ∧
    (encode .halt = [0x76] ∧ cycleCost .halt s = some 4 ∧ exec .halt s = .next { s with run := .halted }) ∧
    (encode (.stop x) = [0x10, x] ∧ cycleCost (.stop x) s = some 4 ∧
      exec (.stop x) s = .next { s with run := .halted })

/-- R263, R264. -/
def Obligations.InterruptEnableBits : Prop :=
  ∀ s : State,
    (encode .di = [0xF3] ∧ cycleCost .di s = some 4 ∧
      exec .di s = .next { s with ime := false, eiPending := false }) ∧
    (encode .ei = [0xFB] ∧ cycleCost .ei s = some 4 ∧ exec .ei s = .next { s with eiPending := true })

/-! ## CB-prefixed instructions -/

/-- R271, R273, R275, R277, R279, R281, R283, R285. -/
def Obligations.CbShiftsOfRegisters : Prop :=
  ∀ (s : State) (op : ShiftOp) (r : Reg8),
    encode (.shift op (.reg r)) = [0xCB, 0b00#2 ++ op.code ++ r.code] ∧ cycleCost (.shift op (.reg r)) s = some 8 ∧
    exec (.shift op (.reg r)) s = .next { s.setReg r (shiftSpec op (s.reg r) (fbit s 4)).1 with
      f := flagByte ((shiftSpec op (s.reg r) (fbit s 4)).1 == 0) false false (shiftSpec op (s.reg r) (fbit s 4)).2 }

/-- R272, R274, R276, R278, R280, R282, R284, R286: read, store, then F; a refused store leaves F. -/
def Obligations.CbShiftsOfMemory : Prop :=
  ∀ (s : State) (op : ShiftOp) (res : Byte) (out : Bool), s.mem.wf = true →
    (res, out) = shiftSpec op (s.mem.read (s.h ++ s.l)) (fbit s 4) →
    encode (.shift op .atHL) = [0xCB, 0b00#2 ++ op.code ++ 0b110#3] ∧ cycleCost (.shift op .atHL) s = some 16 ∧
    StoresByte (.shift op .atHL) s (s.h ++ s.l) res fun t => { t with f := flagByte (res == 0) false false out }

/-- R287, R288: F alone is written. -/
def Obligations.CbBitTest : Prop :=
  ∀ (s : State) (b : Index3) (o : Operand),
    encode (.bitOp b o) = [0xCB, 0b01#2 ++ b.code ++ o.code] ∧
    cycleCost (.bitOp b o) s = some (if o = .atHL then 12 else 8) ∧
    exec (.bitOp b o) s = .next { s with f := flagByte (!(s.operand o).getLsbD b.val) false true (fbit s 4) }

/-- R289, R291: bit `b` of the register is cleared or set, every other bit kept; no flag is written. -/
def Obligations.CbResetAndSetRegister : Prop :=
  ∀ (s : State) (b : Index3) (r : Reg8),
    (encode (.resOp b (.reg r)) = [0xCB, 0b10#2 ++ b.code ++ r.code] ∧ cycleCost (.resOp b (.reg r)) s = some 8 ∧
      ∃ v : Byte, exec (.resOp b (.reg r)) s = .next (s.setReg r v) ∧
        ∀ k, k < 8 → v.getLsbD k = if k = b.val then false else (s.reg r).getLsbD k) ∧
    (encode (.setOp b (.reg r)) = [0xCB, 0b11#2 ++ b.code ++ r.code] ∧ cycleCost (.setOp b (.reg r)) s = some 8 ∧
      ∃ v : Byte, exec (.setOp b (.reg r)) s = .next (s.setReg r v) ∧
        ∀ k, k < 8 → v.getLsbD k = if k = b.val then true else (s.reg r).getLsbD k)

/-- R290, R292: the byte at (HL), with a store. -/
def Obligations.CbResetAndSetMemory : Prop :=
  ∀ (s : State) (b : Index3), s.mem.wf = true →
    (encode (.resOp b .atHL) = [0xCB, 0b10#2 ++ b.code ++ 0b110#3] ∧ cycleCost (.resOp b .atHL) s = some 16 ∧
      ∃ v : Byte, StoresByte (.resOp b .atHL) s (s.h ++ s.l) v id ∧
        ∀ k, k < 8 → v.getLsbD k = if k = b.val then false else (s.mem.read (s.h ++ s.l)).getLsbD k) ∧
    (encode (.setOp b .atHL) = [0xCB, 0b11#2 ++ b.code ++ 0b110#3] ∧ cycleCost (.setOp b .atHL) s = some 16 ∧
      ∃ v : Byte, StoresByte (.setOp b .atHL) s (s.h ++ s.l) v id ∧
        ∀ k, k < 8 → v.getLsbD k = if k = b.val then true else (s.mem.read (s.h ++ s.l)).getLsbD k)
end

