-- ==== Sys2Proof/Laws/Decode.lean ====
section
/-! SUPPORT. What an entry of the decoding tables says about its bytes, and the decoder on each of the instruction formats. -/

namespace Sys2Proof

/-- An entry of the base table agrees with the encoder at its opcode byte: its instructions are well-formed and their bytes begin
with that byte; the prefix stands at 0xCB and the missing entries at the bytes of 30_encoding.md R86. -/
def Entry.Agrees (op : Byte) : Entry → Prop
  | .one i => encode i = [op] ∧ i.WellFormed = true
  | .two f => ∀ b, encode (f b) = [op, b] ∧ (f b).WellFormed = true
  | .three f => ∀ nn, encode (f nn) = [op, immLo nn, immHi nn] ∧ (f nn).WellFormed = true
  | .ext => op = 0xCB
  | .noEntry => unassignedOpcodes.contains op = true

/-- What holds at every byte below 256 holds of every byte: the case analysis by the byte's row and column. -/
theorem byte_by_row {P : Byte → Prop} (h : ∀ r, r < 16 → ∀ k, k < 16 → P (BitVec.ofNat 8 (16 * r + k))) (op : Byte) :
    P op := by
  have e := h (op.toNat / 16) (by have := op.isLt; omega) (op.toNat % 16) (by omega)
  rwa [Nat.div_add_mod, BitVec.ofNat_toNat, BitVec.setWidth_eq] at e

theorem agrees_row0 : ∀ k, k < 16 → (baseEntry (BitVec.ofNat 8 (16 * 0 + k))).Agrees (BitVec.ofNat 8 (16 * 0 + k)) := by
  intro k hk
  interval_cases k <;> first | exact ⟨rfl, rfl⟩ | exact fun _ => ⟨rfl, rfl⟩
theorem agrees_row1 : ∀ k, k < 16 → (baseEntry (BitVec.ofNat 8 (16 * 1 + k))).Agrees (BitVec.ofNat 8 (16 * 1 + k)) := by
  intro k hk
  interval_cases k <;> first | exact ⟨rfl, rfl⟩ | exact fun _ => ⟨rfl, rfl⟩
theorem agrees_row2 : ∀ k, k < 16 → (baseEntry (BitVec.ofNat 8 (16 * 2 + k))).Agrees (BitVec.ofNat 8 (16 * 2 + k)) := by
  intro k hk
  interval_cases k <;> first | exact ⟨rfl, rfl⟩ | exact fun _ => ⟨rfl, rfl⟩
theorem agrees_row3 : ∀ k, k < 16 → (baseEntry (BitVec.ofNat 8 (16 * 3 + k))).Agrees (BitVec.ofNat 8 (16 * 3 + k)) := by
  intro k hk
  interval_cases k <;> first | exact ⟨rfl, rfl⟩ | exact fun _ => ⟨rfl, rfl⟩
theorem agrees_row4 : ∀ k, k < 16 → (baseEntry (BitVec.ofNat 8 (16 * 4 + k))).Agrees (BitVec.ofNat 8 (16 * 4 + k)) := by
  intro k hk
  interval_cases k <;> exact ⟨rfl, rfl⟩
theorem agrees_row5 : ∀ k, k < 16 → (baseEntry (BitVec.ofNat 8 (16 * 5 + k))).Agrees (BitVec.ofNat 8 (16 * 5 + k)) := by
  intro k hk
  interval_cases k <;> exact ⟨rfl, rfl⟩
theorem agrees_row6 : ∀ k, k < 16 → (baseEntry (BitVec.ofNat 8 (16 * 6 + k))).Agrees (BitVec.ofNat 8 (16 * 6 + k)) := by
  intro k hk
  interval_cases k <;> exact ⟨rfl, rfl⟩
theorem agrees_row7 : ∀ k, k < 16 → (baseEntry (BitVec.ofNat 8 (16 * 7 + k))).Agrees (BitVec.ofNat 8 (16 * 7 + k)) := by
  intro k hk
  interval_cases k <;> exact ⟨rfl, rfl⟩
theorem agrees_row8 : ∀ k, k < 16 → (baseEntry (BitVec.ofNat 8 (16 * 8 + k))).Agrees (BitVec.ofNat 8 (16 * 8 + k)) := by
  intro k hk
  interval_cases k <;> exact ⟨rfl, rfl⟩
theorem agrees_row9 : ∀ k, k < 16 → (baseEntry (BitVec.ofNat 8 (16 * 9 + k))).Agrees (BitVec.ofNat 8 (16 * 9 + k)) := by
  intro k hk
  interval_cases k <;> exact ⟨rfl, rfl⟩
theorem agrees_rowA : ∀ k, k < 16 → (baseEntry (BitVec.ofNat 8 (16 * 10 + k))).Agrees (BitVec.ofNat 8 (16 * 10 + k)) := by
  intro k hk
  interval_cases k <;> exact ⟨rfl, rfl⟩
theorem agrees_rowB : ∀ k, k < 16 → (baseEntry (BitVec.ofNat 8 (16 * 11 + k))).Agrees (BitVec.ofNat 8 (16 * 11 + k)) := by
  intro k hk
  interval_cases k <;> exact ⟨rfl, rfl⟩
theorem agrees_rowC : ∀ k, k < 16 → (baseEntry (BitVec.ofNat 8 (16 * 12 + k))).Agrees (BitVec.ofNat 8 (16 * 12 + k)) := by
  intro k hk
  interval_cases k <;> first | exact ⟨rfl, rfl⟩ | exact fun _ => ⟨rfl, rfl⟩ | rfl
theorem agrees_rowD : ∀ k, k < 16 → (baseEntry (BitVec.ofNat 8 (16 * 13 + k))).Agrees (BitVec.ofNat 8 (16 * 13 + k)) := by
  intro k hk
  interval_cases k <;> first | exact ⟨rfl, rfl⟩ | exact fun _ => ⟨rfl, rfl⟩ | rfl
theorem agrees_rowE : ∀ k, k < 16 → (baseEntry (BitVec.ofNat 8 (16 * 14 + k))).Agrees (BitVec.ofNat 8 (16 * 14 + k)) := by
  intro k hk
  interval_cases k <;> first | exact ⟨rfl, rfl⟩ | exact fun _ => ⟨rfl, rfl⟩ | rfl
theorem agrees_rowF : ∀ k, k < 16 → (baseEntry (BitVec.ofNat 8 (16 * 15 + k))).Agrees (BitVec.ofNat 8 (16 * 15 + k)) := by
  intro k hk
  interval_cases k <;> first | exact ⟨rfl, rfl⟩ | exact fun _ => ⟨rfl, rfl⟩ | rfl

/-- Every entry of the base table agrees with the encoder. -/
theorem baseEntry_agrees : ∀ op : Byte, (baseEntry op).Agrees op := by
  refine byte_by_row fun r hr => ?_
  interval_cases r
  · exact agrees_row0
  · exact agrees_row1
  · exact agrees_row2
  · exact agrees_row3
  · exact agrees_row4
  · exact agrees_row5
  · exact agrees_row6
  · exact agrees_row7
  · exact agrees_row8
  · exact agrees_row9
  · exact agrees_rowA
  · exact agrees_rowB
  · exact agrees_rowC
  · exact agrees_rowD
  · exact agrees_rowE
  · exact agrees_rowF

/-- Every entry of the CB table is well-formed and its bytes are the prefix and its sub-opcode. -/
theorem cbEntry_agrees : ∀ sub : Byte, encode (cbEntry sub) = [0xCB, sub] ∧ (cbEntry sub).WellFormed = true := by decide

/-- The bits of an immediate: the low byte's, then the high byte's. -/
theorem imm16_getLsbD (lo hi : Byte) (i : Nat) :
    (imm16 lo hi).getLsbD i = if i < 8 then lo.getLsbD i else hi.getLsbD (i - 8) :=
  BitVec.getLsbD_append

/-- An immediate is the two bytes it is stored in. -/
theorem imm16_lo_hi (nn : Word) : imm16 (immLo nn) (immHi nn) = nn := by
  apply BitVec.eq_of_getLsbD_eq
  intro i hi
  rw [imm16_getLsbD]
  by_cases h : i < 8
  · simp [immLo, h]
  · have h8 : 8 + (i - 8) = i := by omega
    have hi' : i - 8 < 8 := by omega
    simp [immHi, h, h8, hi']

theorem immLo_imm16 (lo hi : Byte) : immLo (imm16 lo hi) = lo := by
  apply BitVec.eq_of_getLsbD_eq
  intro i hi'
  rw [immLo, BitVec.getLsbD_extractLsb', imm16_getLsbD]
  simp [hi']

theorem immHi_imm16 (lo hi : Byte) : immHi (imm16 lo hi) = hi := by
  apply BitVec.eq_of_getLsbD_eq
  intro i hi'
  rw [immHi, BitVec.getLsbD_extractLsb', imm16_getLsbD]
  simp [hi']

/-! The decoder on each format. -/

theorem decode_one {op : Byte} {i : Instr} (h : baseEntry op = .one i) (rest : List Byte) :
    decode (op :: rest) = .ok (i, rest) := by
  simp [decode, decode3, h]

theorem decode_two {op : Byte} {f : Byte → Instr} (h : baseEntry op = .two f) (b : Byte) (rest : List Byte) :
    decode (op :: b :: rest) = .ok (f b, rest) := by
  simp [decode, decode3, h]

theorem decode_three {op : Byte} {f : Word → Instr} (h : baseEntry op = .three f) (nn : Word) (rest : List Byte) :
    decode (op :: immLo nn :: immHi nn :: rest) = .ok (f nn, rest) := by
  simp [decode, decode3, h, imm16_lo_hi]

theorem decode_ext {op : Byte} (h : baseEntry op = .ext) (sub : Byte) (rest : List Byte) :
    decode (op :: sub :: rest) = .ok (cbEntry sub, rest) := by
  simp [decode, decode3, h]

theorem decode_noEntry {op : Byte} (h : baseEntry op = .noEntry) (rest : List Byte) :
    decode (op :: rest) = .ok (.no_entry op, rest) := by
  simp [decode, decode3, h]

end Sys2Proof
end

