-- ==== Sys2Proof/Laws/Exec.lean ====
section
/-! SUPPORT. What `exec` does with the instructions of one shape, as one equation over the shared operation: the lemmas that
later proofs cite instead of unfolding the dispatch. -/

namespace Sys2Proof.Machine

variable (s : State)

theorem exec_ldRegReg (r q : Reg8) :
    exec (.ldRegReg r q) s = loadReg r (s.reg q) s := by
  cases r <;> cases q <;> rfl

theorem exec_ldRegImm (r : Reg8) (n : Byte) :
    exec (.ldRegImm r n) s = loadReg r n s := by
  cases r <;> rfl

theorem exec_ldRegHL (r : Reg8) :
    exec (.ldRegHL r) s = loadReg r (s.mem.read s.hl) s := by
  cases r <;> rfl

theorem exec_ldHLReg (r : Reg8) :
    exec (.ldHLReg r) s = storeByte s.hl (s.reg r) s := by
  cases r <;> rfl

theorem exec_alu (op : AluOp) (o : Operand) :
    exec (.alu op o) s = aluAcc op (s.operand o) s := by
  cases op <;> cases o <;> first | rfl | (rename_i r; cases r <;> rfl)

theorem exec_aluImm (op : AluOp) (n : Byte) :
    exec (.aluImm op n) s = aluAcc op n s := by
  cases op <;> rfl

theorem exec_incReg (r : Reg8) :
    exec (.incOp (.reg r)) s = incReg r s := by
  cases r <;> rfl

theorem exec_incMem :
    exec (.incOp .atHL) s = incMem s := by
  rfl

theorem exec_decReg (r : Reg8) :
    exec (.decOp (.reg r)) s = decReg r s := by
  cases r <;> rfl

theorem exec_decMem :
    exec (.decOp .atHL) s = decMem s := by
  rfl

theorem exec_ldPairImm (p : PairSP) (nn : Word) :
    exec (.ldPairImm p nn) s = loadPair p nn s := by
  cases p <;> rfl

theorem exec_incPair (p : PairSP) :
    exec (.incPair p) s = putPair p (s.pair p + 1) s := by
  cases p <;> rfl

theorem exec_decPair (p : PairSP) :
    exec (.decPair p) s = putPair p (s.pair p - 1) s := by
  cases p <;> rfl

theorem exec_addHLPair (p : PairSP) :
    exec (.addHLPair p) s = addHL (s.pair p) s := by
  cases p <;> rfl

theorem exec_push (p : PairAF) :
    exec (.push p) s = push16 (s.stackPair p) s .next := by
  cases p <;> rfl

theorem exec_pop (p : PairAF) :
    exec (.pop p) s = popPair p s := by
  cases p <;> rfl

theorem exec_jpIf (cc : Cond) (nn : Word) :
    exec (.jpIf cc nn) s = jumpIf (condHolds cc s.f) nn s := by
  cases cc <;> rfl

theorem exec_jrIf (cc : Cond) (e : Byte) :
    exec (.jrIf cc e) s = jumpIf (condHolds cc s.f) (s.pc + sext16 e) s := by
  cases cc <;> rfl

theorem exec_callIf (cc : Cond) (nn : Word) :
    exec (.callIf cc nn) s = callIf (condHolds cc s.f) nn s := by
  cases cc <;> rfl

theorem exec_retIf (cc : Cond) :
    exec (.retIf cc) s = returnIf (condHolds cc s.f) s := by
  cases cc <;> rfl

theorem exec_rst (i : Index3) :
    exec (.rst i) s = callTo (BitVec.ofNat 16 (8 * i.val)) s := by
  cases i <;> rfl

theorem exec_shiftReg (op : ShiftOp) (r : Reg8) :
    exec (.shift op (.reg r)) s = shiftReg op r s := by
  cases op <;> cases r <;> rfl

theorem exec_shiftMem (op : ShiftOp) :
    exec (.shift op .atHL) s = shiftMem op s := by
  cases op <;> rfl

theorem exec_bitReg (i : Index3) (r : Reg8) :
    exec (.bitOp i (.reg r)) s = bitTest i (s.reg r) s := by
  cases i <;> cases r <;> rfl

theorem exec_bitMem (i : Index3) :
    exec (.bitOp i .atHL) s = bitTest i (s.mem.read s.hl) s := by
  cases i <;> rfl

theorem exec_resReg (i : Index3) (r : Reg8) :
    exec (.resOp i (.reg r)) s = loadBitReg (resBit (s.reg r) i) r s := by
  cases i <;> cases r <;> rfl

theorem exec_resMem (i : Index3) :
    exec (.resOp i .atHL) s = resMem i s := by
  cases i <;> rfl

theorem exec_setReg (i : Index3) (r : Reg8) :
    exec (.setOp i (.reg r)) s = loadBitReg (setBit (s.reg r) i) r s := by
  cases i <;> cases r <;> rfl

theorem exec_setMem (i : Index3) :
    exec (.setOp i .atHL) s = setMem i s := by
  cases i <;> rfl

end Sys2Proof.Machine
end

