-- ==== Sys2Proof/Laws/Memory.lean ====
section
/-! SUPPORT. Every memory operation keeps the canonical form. -/

namespace Sys2Proof.Machine

/-- A looser lower bound keeps the canonical form. -/
theorem Memory.wfFrom_mono {lo lo' : Nat} (hle : lo ≤ lo') {m : Memory} (h : m.wfFrom lo' = true) :
    m.wfFrom lo = true := by
  cases m with
  | nil => rfl
  | cons c rest =>
    obtain ⟨k, w⟩ := c
    simp only [Memory.wfFrom, Bool.and_eq_true, decide_eq_true_eq] at h ⊢
    exact ⟨⟨⟨by omega, h.1.1.2⟩, h.1.2⟩, h.2⟩

/-- Inserting a byte at a key at or above the bound keeps the canonical form above that bound. -/
theorem Memory.wfFrom_insert (m : Memory) (n : Nat) (v : Byte) (hn : n < 65536) :
    ∀ lo, lo ≤ n → m.wfFrom lo = true → (m.insert n v).wfFrom lo = true := by
  induction m with
  | nil =>
    intro lo hlo _
    by_cases hv : v = unlistedByte <;> simp [Memory.insert, Memory.wfFrom, hv, hlo, hn]
  | cons c rest ih =>
    obtain ⟨k, w⟩ := c
    intro lo hlo h
    have hc := h
    simp only [Memory.wfFrom, Bool.and_eq_true, decide_eq_true_eq] at hc
    obtain ⟨⟨⟨hk, hk'⟩, hw⟩, hr⟩ := hc
    by_cases hlt : n < k
    · by_cases hv : v = unlistedByte
      · simp [Memory.insert, hlt, hv, h]
      · simp only [Memory.insert, hlt, hv, if_true, if_false, Memory.wfFrom, Bool.and_eq_true, decide_eq_true_eq]
        exact ⟨⟨⟨hlo, hn⟩, hv⟩, ⟨⟨by omega, hk'⟩, hw⟩, hr⟩
    · by_cases heq : n = k
      · by_cases hv : v = unlistedByte
        · simp only [Memory.insert, heq, hv, if_true, if_false, lt_irrefl]
          exact Memory.wfFrom_mono (by omega) hr
        · simp only [Memory.insert, heq, hv, if_true, if_false, lt_irrefl, Memory.wfFrom, Bool.and_eq_true,
            decide_eq_true_eq]
          exact ⟨⟨⟨hk, hk'⟩, hv⟩, hr⟩
      · simp only [Memory.insert, hlt, heq, if_false, Memory.wfFrom, Bool.and_eq_true, decide_eq_true_eq]
        exact ⟨⟨⟨hk, hk'⟩, hw⟩, ih (k + 1) (by omega) hr⟩

/-- A byte write keeps the canonical form. -/
theorem Memory.wf_write {m : Memory} (h : m.wf = true) (addr : Word) (v : Byte) : (m.write addr v).wf = true :=
  Memory.wfFrom_insert m addr.toNat v addr.isLt 0 (Nat.zero_le _) h

/-- Placing a program's bytes keeps the canonical form. -/
theorem wf_placeBytes {m : Memory} (h : m.wf = true) (addr : Word) (b0 b1 b2 : Byte) :
    (placeBytes m addr b0 b1 b2).wf = true :=
  Memory.wf_write (Memory.wf_write (Memory.wf_write h _ _) _ _) _ _

/-- The memory of the machine after reset has the canonical form. -/
theorem wf_reset : State.reset.mem.wf = true := rfl

end Sys2Proof.Machine
end

