-- ==== Sys2Proof/Laws/Ops.lean ====
section
/-! SUPPORT. What each shared operation can do, said once: the bus store, the stack push, fault entry, and the end of a
step. -/

namespace Sys2Proof.Machine

/-- Fault entry writes the run state and nothing else. -/
theorem raise_eq (r : Fault) (s : State) : raise r s = .next { s with run := .faulted r } := rfl

/-- The bus store: what holds of the rest of the instruction after an accepted write, of the rest after a dropped one, and of
the fault entry after a refused one, holds of the store. -/
theorem store_elim {P : Result → Prop} {addr : Word} {v : Byte} {s : State} {rest : State → Result}
    (landed : writable s.cfg addr = true → P (rest (s.setMem (s.mem.write addr v))))
    (dropped : writable s.cfg addr = false → s.cfg.roWritePolicy = .ignore → P (rest s))
    (refused : writable s.cfg addr = false → s.cfg.roWritePolicy = .fault → P (raise (.storageWrite addr v) s)) :
    P (store addr v s rest) := by
  unfold store
  cases hw : writable s.cfg addr
  · cases hp : s.cfg.roWritePolicy
    · simpa [hp] using dropped hw hp
    · simpa [hp] using refused hw hp
  · simpa using landed hw

theorem store_of_writable {addr : Word} {v : Byte} {s : State} {rest : State → Result}
    (h : writable s.cfg addr = true) : store addr v s rest = rest (s.setMem (s.mem.write addr v)) := by
  simp [store, h]

theorem store_of_ignore {addr : Word} {v : Byte} {s : State} {rest : State → Result}
    (h : writable s.cfg addr = false) (hp : s.cfg.roWritePolicy = .ignore) : store addr v s rest = rest s := by
  simp [store, h, hp]

theorem store_of_fault {addr : Word} {v : Byte} {s : State} {rest : State → Result}
    (h : writable s.cfg addr = false) (hp : s.cfg.roWritePolicy = .fault) :
    store addr v s rest = raise (.storageWrite addr v) s := by
  simp [store, h, hp]

/-- The stack push, as `store_elim`: the rest runs with `sp` lowered by 2 and the memory the two stores left; a refused high
byte leaves `sp` lowered by 1, a refused low byte by 2 with the high byte's store standing. -/
theorem push16_elim {P : Result → Prop} {v : Word} {s : State} {rest : State → Result}
    (done : ∀ m, (m = s.mem ∨ m = s.mem.write (s.sp - 1) (hiByte v) ∨ m = s.mem.write (s.sp - 1 - 1) (loByte v) ∨
        m = (s.mem.write (s.sp - 1) (hiByte v)).write (s.sp - 1 - 1) (loByte v)) →
      P (rest ((s.setSP (s.sp - 1 - 1)).setMem m)))
    (refusedHi : writable s.cfg (s.sp - 1) = false → s.cfg.roWritePolicy = .fault →
      P (raise (.storageWrite (s.sp - 1) (hiByte v)) (s.setSP (s.sp - 1))))
    (refusedLo : ∀ m, (m = s.mem ∨ m = s.mem.write (s.sp - 1) (hiByte v)) → writable s.cfg (s.sp - 1 - 1) = false →
      s.cfg.roWritePolicy = .fault →
      P (raise (.storageWrite (s.sp - 1 - 1) (loByte v)) ((s.setSP (s.sp - 1 - 1)).setMem m))) :
    P (push16 v s rest) := by
  unfold push16
  refine store_elim (fun _ => ?_) (fun _ _ => ?_) refusedHi
  · refine store_elim (fun _ => ?_) (fun _ _ => ?_) (fun hw hp => ?_)
    · exact done _ (.inr (.inr (.inr rfl)))
    · exact done _ (.inr (.inl rfl))
    · exact refusedLo _ (.inr rfl) hw hp
  · refine store_elim (fun _ => ?_) (fun _ _ => ?_) (fun hw hp => ?_)
    · exact done _ (.inr (.inr (.inl rfl)))
    · exact done _ (.inl rfl)
    · exact refusedLo _ (.inl rfl) hw hp

/-- The EI delay changes `ime` and `eiPending` at most. -/
theorem resolveEi_eq (was : Bool) (t : State) :
    ∃ x y, resolveEi was t = { t with ime := x, eiPending := y } := by
  unfold resolveEi
  split
  · exact ⟨_, _, rfl⟩
  · split
    · exact ⟨true, false, rfl⟩
    · exact ⟨_, _, rfl⟩

/-- A step that ends in a next state ends in the EI delay of the instruction's next state. -/
theorem finishStep_next {was : Bool} {r : Result} {t : State} (h : finishStep was r = .next t) :
    ∃ u, r = .next u ∧ t = resolveEi was u := by
  cases r with
  | next u => exact ⟨u, rfl, by simpa [finishStep] using h.symm⟩
  | fault _ => simp [finishStep] at h
  | refused _ => simp [finishStep] at h

/-- A conditional jump writes `pc` when taken and nothing otherwise. -/
theorem jumpIf_eq (taken : Bool) (target : Word) (s : State) :
    jumpIf taken target s = .next (if taken then s.setPC target else s) := by
  cases taken <;> rfl

/-- A conditional return pops `pc` when taken and does nothing otherwise. -/
theorem returnIf_eq (taken : Bool) (s : State) :
    returnIf taken s = .next (if taken then (popState s).setPC (popValue s) else s) := by
  cases taken <;> rfl

end Sys2Proof.Machine
end

