-- ==== Sys2Proof/Laws/Shapes.lean ====
section
/-! SUPPORT. Case analysis over the instructions by shape: what holds of each of the shapes of 30_encoding.md holds of every
instruction. A proof about all instructions has one case for each shape, not one for each constructor. -/

namespace Sys2Proof

/-- What holds of every shape holds of every instruction. -/
theorem Instr.byShape {P : Instr → Prop}
    (ldRegReg : ∀ (r q : Reg8), P (.ldRegReg r q))
    (ldRegImm : ∀ (r : Reg8) (n : Byte), P (.ldRegImm r n))
    (ldRegHL : ∀ (r : Reg8), P (.ldRegHL r))
    (ldHLReg : ∀ (r : Reg8), P (.ldHLReg r))
    (alu : ∀ (op : AluOp) (o : Operand), P (.alu op o))
    (aluImm : ∀ (op : AluOp) (n : Byte), P (.aluImm op n))
    (incOp : ∀ (o : Operand), P (.incOp o))
    (decOp : ∀ (o : Operand), P (.decOp o))
    (ldPairImm : ∀ (p : PairSP) (nn : Word), P (.ldPairImm p nn))
    (incPair : ∀ (p : PairSP), P (.incPair p))
    (decPair : ∀ (p : PairSP), P (.decPair p))
    (addHLPair : ∀ (p : PairSP), P (.addHLPair p))
    (push : ∀ (p : PairAF), P (.push p))
    (pop : ∀ (p : PairAF), P (.pop p))
    (jpIf : ∀ (cc : Cond) (nn : Word), P (.jpIf cc nn))
    (jrIf : ∀ (cc : Cond) (e : Byte), P (.jrIf cc e))
    (callIf : ∀ (cc : Cond) (nn : Word), P (.callIf cc nn))
    (retIf : ∀ (cc : Cond), P (.retIf cc))
    (rst : ∀ (i : Index3), P (.rst i))
    (shift : ∀ (op : ShiftOp) (o : Operand), P (.shift op o))
    (bitOp : ∀ (i : Index3) (o : Operand), P (.bitOp i o))
    (resOp : ∀ (i : Index3) (o : Operand), P (.resOp i o))
    (setOp : ∀ (i : Index3) (o : Operand), P (.setOp i o))
    (nop : P .nop)
    (ld_mBC_A : P .ld_mBC_A)
    (rlca : P .rlca)
    (ld_mnn_SP : ∀ (nn : Word), P (.ld_mnn_SP nn))
    (ld_A_mBC : P .ld_A_mBC)
    (rrca : P .rrca)
    (stop : ∀ (x : Byte), P (.stop x))
    (ld_mDE_A : P .ld_mDE_A)
    (rla : P .rla)
    (jr_e : ∀ (e : Byte), P (.jr_e e))
    (ld_A_mDE : P .ld_A_mDE)
    (rra : P .rra)
    (ld_mHLi_A : P .ld_mHLi_A)
    (daa : P .daa)
    (ld_A_mHLi : P .ld_A_mHLi)
    (cpl : P .cpl)
    (ld_mHLd_A : P .ld_mHLd_A)
    (ld_mHL_n : ∀ (n : Byte), P (.ld_mHL_n n))
    (scf : P .scf)
    (ld_A_mHLd : P .ld_A_mHLd)
    (ccf : P .ccf)
    (halt : P .halt)
    (jp_nn : ∀ (nn : Word), P (.jp_nn nn))
    (ret : P .ret)
    (prefix_CB : ∀ (sub : Byte), P (.prefix_CB sub))
    (call_nn : ∀ (nn : Word), P (.call_nn nn))
    (no_entry : ∀ (op : Byte), P (.no_entry op))
    (reti : P .reti)
    (ldh_mn_A : ∀ (n : Byte), P (.ldh_mn_A n))
    (ld_mC_A : P .ld_mC_A)
    (add_SP_e : ∀ (e : Byte), P (.add_SP_e e))
    (jp_HL : P .jp_HL)
    (ld_mnn_A : ∀ (nn : Word), P (.ld_mnn_A nn))
    (ldh_A_mn : ∀ (n : Byte), P (.ldh_A_mn n))
    (ld_A_mC : P .ld_A_mC)
    (di : P .di)
    (ld_HL_SPe : ∀ (e : Byte), P (.ld_HL_SPe e))
    (ld_SP_HL : P .ld_SP_HL)
    (ld_A_mnn : ∀ (nn : Word), P (.ld_A_mnn nn))
    (ei : P .ei)
    (i : Instr) : P i :=
  match i with
  | .nop => nop
  | .ld_BC_nn nn => ldPairImm .bc nn
  | .ld_mBC_A => ld_mBC_A
  | .inc_BC => incPair .bc
  | .inc_B => incOp (.reg .b)
  | .dec_B => decOp (.reg .b)
  | .ld_B_n n => ldRegImm .b n
  | .rlca => rlca
  | .ld_mnn_SP nn => ld_mnn_SP nn
  | .add_HL_BC => addHLPair .bc
  | .ld_A_mBC => ld_A_mBC
  | .dec_BC => decPair .bc
  | .inc_C => incOp (.reg .c)
  | .dec_C => decOp (.reg .c)
  | .ld_C_n n => ldRegImm .c n
  | .rrca => rrca
  | .stop x => stop x
  | .ld_DE_nn nn => ldPairImm .de nn
  | .ld_mDE_A => ld_mDE_A
  | .inc_DE => incPair .de
  | .inc_D => incOp (.reg .d)
  | .dec_D => decOp (.reg .d)
  | .ld_D_n n => ldRegImm .d n
  | .rla => rla
  | .jr_e e => jr_e e
  | .add_HL_DE => addHLPair .de
  | .ld_A_mDE => ld_A_mDE
  | .dec_DE => decPair .de
  | .inc_E => incOp (.reg .e)
  | .dec_E => decOp (.reg .e)
  | .ld_E_n n => ldRegImm .e n
  | .rra => rra
  | .jr_NZ_e e => jrIf .nz e
  | .ld_HL_nn nn => ldPairImm .hl nn
  | .ld_mHLi_A => ld_mHLi_A
  | .inc_HL => incPair .hl
  | .inc_H => incOp (.reg .h)
  | .dec_H => decOp (.reg .h)
  | .ld_H_n n => ldRegImm .h n
  | .daa => daa
  | .jr_Z_e e => jrIf .z e
  | .add_HL_HL => addHLPair .hl
  | .ld_A_mHLi => ld_A_mHLi
  | .dec_HL => decPair .hl
  | .inc_L => incOp (.reg .l)
  | .dec_L => decOp (.reg .l)
  | .ld_L_n n => ldRegImm .l n
  | .cpl => cpl
  | .jr_NC_e e => jrIf .nc e
  | .ld_SP_nn nn => ldPairImm .sp nn
  | .ld_mHLd_A => ld_mHLd_A
  | .inc_SP => incPair .sp
  | .inc_mHL => incOp .atHL
  | .dec_mHL => decOp .atHL
  | .ld_mHL_n n => ld_mHL_n n
  | .scf => scf
  | .jr_C_e e => jrIf .c e
  | .add_HL_SP => addHLPair .sp
  | .ld_A_mHLd => ld_A_mHLd
  | .dec_SP => decPair .sp
  | .inc_A => incOp (.reg .a)
  | .dec_A => decOp (.reg .a)
  | .ld_A_n n => ldRegImm .a n
  | .ccf => ccf
  | .ld_B_B => ldRegReg .b .b
  | .ld_B_C => ldRegReg .b .c
  | .ld_B_D => ldRegReg .b .d
  | .ld_B_E => ldRegReg .b .e
  | .ld_B_H => ldRegReg .b .h
  | .ld_B_L => ldRegReg .b .l
  | .ld_B_mHL => ldRegHL .b
  | .ld_B_A => ldRegReg .b .a
  | .ld_C_B => ldRegReg .c .b
  | .ld_C_C => ldRegReg .c .c
  | .ld_C_D => ldRegReg .c .d
  | .ld_C_E => ldRegReg .c .e
  | .ld_C_H => ldRegReg .c .h
  | .ld_C_L => ldRegReg .c .l
  | .ld_C_mHL => ldRegHL .c
  | .ld_C_A => ldRegReg .c .a
  | .ld_D_B => ldRegReg .d .b
  | .ld_D_C => ldRegReg .d .c
  | .ld_D_D => ldRegReg .d .d
  | .ld_D_E => ldRegReg .d .e
  | .ld_D_H => ldRegReg .d .h
  | .ld_D_L => ldRegReg .d .l
  | .ld_D_mHL => ldRegHL .d
  | .ld_D_A => ldRegReg .d .a
  | .ld_E_B => ldRegReg .e .b
  | .ld_E_C => ldRegReg .e .c
  | .ld_E_D => ldRegReg .e .d
  | .ld_E_E => ldRegReg .e .e
  | .ld_E_H => ldRegReg .e .h
  | .ld_E_L => ldRegReg .e .l
  | .ld_E_mHL => ldRegHL .e
  | .ld_E_A => ldRegReg .e .a
  | .ld_H_B => ldRegReg .h .b
  | .ld_H_C => ldRegReg .h .c
  | .ld_H_D => ldRegReg .h .d
  | .ld_H_E => ldRegReg .h .e
  | .ld_H_H => ldRegReg .h .h
  | .ld_H_L => ldRegReg .h .l
  | .ld_H_mHL => ldRegHL .h
  | .ld_H_A => ldRegReg .h .a
  | .ld_L_B => ldRegReg .l .b
  | .ld_L_C => ldRegReg .l .c
  | .ld_L_D => ldRegReg .l .d
  | .ld_L_E => ldRegReg .l .e
  | .ld_L_H => ldRegReg .l .h
  | .ld_L_L => ldRegReg .l .l
  | .ld_L_mHL => ldRegHL .l
  | .ld_L_A => ldRegReg .l .a
  | .ld_mHL_B => ldHLReg .b
  | .ld_mHL_C => ldHLReg .c
  | .ld_mHL_D => ldHLReg .d
  | .ld_mHL_E => ldHLReg .e
  | .ld_mHL_H => ldHLReg .h
  | .ld_mHL_L => ldHLReg .l
  | .halt => halt
  | .ld_mHL_A => ldHLReg .a
  | .ld_A_B => ldRegReg .a .b
  | .ld_A_C => ldRegReg .a .c
  | .ld_A_D => ldRegReg .a .d
  | .ld_A_E => ldRegReg .a .e
  | .ld_A_H => ldRegReg .a .h
  | .ld_A_L => ldRegReg .a .l
  | .ld_A_mHL => ldRegHL .a
  | .ld_A_A => ldRegReg .a .a
  | .add_A_B => alu .add (.reg .b)
  | .add_A_C => alu .add (.reg .c)
  | .add_A_D => alu .add (.reg .d)
  | .add_A_E => alu .add (.reg .e)
  | .add_A_H => alu .add (.reg .h)
  | .add_A_L => alu .add (.reg .l)
  | .add_A_mHL => alu .add .atHL
  | .add_A_A => alu .add (.reg .a)
  | .adc_A_B => alu .adc (.reg .b)
  | .adc_A_C => alu .adc (.reg .c)
  | .adc_A_D => alu .adc (.reg .d)
  | .adc_A_E => alu .adc (.reg .e)
  | .adc_A_H => alu .adc (.reg .h)
  | .adc_A_L => alu .adc (.reg .l)
  | .adc_A_mHL => alu .adc .atHL
  | .adc_A_A => alu .adc (.reg .a)
  | .sub_B => alu .sub (.reg .b)
  | .sub_C => alu .sub (.reg .c)
  | .sub_D => alu .sub (.reg .d)
  | .sub_E => alu .sub (.reg .e)
  | .sub_H => alu .sub (.reg .h)
  | .sub_L => alu .sub (.reg .l)
  | .sub_mHL => alu .sub .atHL
  | .sub_A => alu .sub (.reg .a)
  | .sbc_A_B => alu .sbc (.reg .b)
  | .sbc_A_C => alu .sbc (.reg .c)
  | .sbc_A_D => alu .sbc (.reg .d)
  | .sbc_A_E => alu .sbc (.reg .e)
  | .sbc_A_H => alu .sbc (.reg .h)
  | .sbc_A_L => alu .sbc (.reg .l)
  | .sbc_A_mHL => alu .sbc .atHL
  | .sbc_A_A => alu .sbc (.reg .a)
  | .and_B => alu .and (.reg .b)
  | .and_C => alu .and (.reg .c)
  | .and_D => alu .and (.reg .d)
  | .and_E => alu .and (.reg .e)
  | .and_H => alu .and (.reg .h)
  | .and_L => alu .and (.reg .l)
  | .and_mHL => alu .and .atHL
  | .and_A => alu .and (.reg .a)
  | .xor_B => alu .xor (.reg .b)
  | .xor_C => alu .xor (.reg .c)
  | .xor_D => alu .xor (.reg .d)
  | .xor_E => alu .xor (.reg .e)
  | .xor_H => alu .xor (.reg .h)
  | .xor_L => alu .xor (.reg .l)
  | .xor_mHL => alu .xor .atHL
  | .xor_A => alu .xor (.reg .a)
  | .or_B => alu .or (.reg .b)
  | .or_C => alu .or (.reg .c)
  | .or_D => alu .or (.reg .d)
  | .or_E => alu .or (.reg .e)
  | .or_H => alu .or (.reg .h)
  | .or_L => alu .or (.reg .l)
  | .or_mHL => alu .or .atHL
  | .or_A => alu .or (.reg .a)
  | .cp_B => alu .cp (.reg .b)
  | .cp_C => alu .cp (.reg .c)
  | .cp_D => alu .cp (.reg .d)
  | .cp_E => alu .cp (.reg .e)
  | .cp_H => alu .cp (.reg .h)
  | .cp_L => alu .cp (.reg .l)
  | .cp_mHL => alu .cp .atHL
  | .cp_A => alu .cp (.reg .a)
  | .ret_NZ => retIf .nz
  | .pop_BC => pop .bc
  | .jp_NZ_nn nn => jpIf .nz nn
  | .jp_nn nn => jp_nn nn
  | .call_NZ_nn nn => callIf .nz nn
  | .push_BC => push .bc
  | .add_A_n n => aluImm .add n
  | .rst_00h => rst .i0
  | .ret_Z => retIf .z
  | .ret => ret
  | .jp_Z_nn nn => jpIf .z nn
  | .prefix_CB sub => prefix_CB sub
  | .call_Z_nn nn => callIf .z nn
  | .call_nn nn => call_nn nn
  | .adc_A_n n => aluImm .adc n
  | .rst_08h => rst .i1
  | .ret_NC => retIf .nc
  | .pop_DE => pop .de
  | .jp_NC_nn nn => jpIf .nc nn
  | .no_entry op => no_entry op
  | .call_NC_nn nn => callIf .nc nn
  | .push_DE => push .de
  | .sub_n n => aluImm .sub n
  | .rst_10h => rst .i2
  | .ret_C => retIf .c
  | .reti => reti
  | .jp_C_nn nn => jpIf .c nn
  | .call_C_nn nn => callIf .c nn
  | .sbc_A_n n => aluImm .sbc n
  | .rst_18h => rst .i3
  | .ldh_mn_A n => ldh_mn_A n
  | .pop_HL => pop .hl
  | .ld_mC_A => ld_mC_A
  | .push_HL => push .hl
  | .and_n n => aluImm .and n
  | .rst_20h => rst .i4
  | .add_SP_e e => add_SP_e e
  | .jp_HL => jp_HL
  | .ld_mnn_A nn => ld_mnn_A nn
  | .xor_n n => aluImm .xor n
  | .rst_28h => rst .i5
  | .ldh_A_mn n => ldh_A_mn n
  | .pop_AF => pop .af
  | .ld_A_mC => ld_A_mC
  | .di => di
  | .push_AF => push .af
  | .or_n n => aluImm .or n
  | .rst_30h => rst .i6
  | .ld_HL_SPe e => ld_HL_SPe e
  | .ld_SP_HL => ld_SP_HL
  | .ld_A_mnn nn => ld_A_mnn nn
  | .ei => ei
  | .cp_n n => aluImm .cp n
  | .rst_38h => rst .i7
  | .rlc_B => shift .rlc (.reg .b)
  | .rlc_C => shift .rlc (.reg .c)
  | .rlc_D => shift .rlc (.reg .d)
  | .rlc_E => shift .rlc (.reg .e)
  | .rlc_H => shift .rlc (.reg .h)
  | .rlc_L => shift .rlc (.reg .l)
  | .rlc_mHL => shift .rlc .atHL
  | .rlc_A => shift .rlc (.reg .a)
  | .rrc_B => shift .rrc (.reg .b)
  | .rrc_C => shift .rrc (.reg .c)
  | .rrc_D => shift .rrc (.reg .d)
  | .rrc_E => shift .rrc (.reg .e)
  | .rrc_H => shift .rrc (.reg .h)
  | .rrc_L => shift .rrc (.reg .l)
  | .rrc_mHL => shift .rrc .atHL
  | .rrc_A => shift .rrc (.reg .a)
  | .rl_B => shift .rl (.reg .b)
  | .rl_C => shift .rl (.reg .c)
  | .rl_D => shift .rl (.reg .d)
  | .rl_E => shift .rl (.reg .e)
  | .rl_H => shift .rl (.reg .h)
  | .rl_L => shift .rl (.reg .l)
  | .rl_mHL => shift .rl .atHL
  | .rl_A => shift .rl (.reg .a)
  | .rr_B => shift .rr (.reg .b)
  | .rr_C => shift .rr (.reg .c)
  | .rr_D => shift .rr (.reg .d)
  | .rr_E => shift .rr (.reg .e)
  | .rr_H => shift .rr (.reg .h)
  | .rr_L => shift .rr (.reg .l)
  | .rr_mHL => shift .rr .atHL
  | .rr_A => shift .rr (.reg .a)
  | .sla_B => shift .sla (.reg .b)
  | .sla_C => shift .sla (.reg .c)
  | .sla_D => shift .sla (.reg .d)
  | .sla_E => shift .sla (.reg .e)
  | .sla_H => shift .sla (.reg .h)
  | .sla_L => shift .sla (.reg .l)
  | .sla_mHL => shift .sla .atHL
  | .sla_A => shift .sla (.reg .a)
  | .sra_B => shift .sra (.reg .b)
  | .sra_C => shift .sra (.reg .c)
  | .sra_D => shift .sra (.reg .d)
  | .sra_E => shift .sra (.reg .e)
  | .sra_H => shift .sra (.reg .h)
  | .sra_L => shift .sra (.reg .l)
  | .sra_mHL => shift .sra .atHL
  | .sra_A => shift .sra (.reg .a)
  | .swap_B => shift .swap (.reg .b)
  | .swap_C => shift .swap (.reg .c)
  | .swap_D => shift .swap (.reg .d)
  | .swap_E => shift .swap (.reg .e)
  | .swap_H => shift .swap (.reg .h)
  | .swap_L => shift .swap (.reg .l)
  | .swap_mHL => shift .swap .atHL
  | .swap_A => shift .swap (.reg .a)
  | .srl_B => shift .srl (.reg .b)
  | .srl_C => shift .srl (.reg .c)
  | .srl_D => shift .srl (.reg .d)
  | .srl_E => shift .srl (.reg .e)
  | .srl_H => shift .srl (.reg .h)
  | .srl_L => shift .srl (.reg .l)
  | .srl_mHL => shift .srl .atHL
  | .srl_A => shift .srl (.reg .a)
  | .bit_0_B => bitOp .i0 (.reg .b)
  | .bit_0_C => bitOp .i0 (.reg .c)
  | .bit_0_D => bitOp .i0 (.reg .d)
  | .bit_0_E => bitOp .i0 (.reg .e)
  | .bit_0_H => bitOp .i0 (.reg .h)
  | .bit_0_L => bitOp .i0 (.reg .l)
  | .bit_0_mHL => bitOp .i0 .atHL
  | .bit_0_A => bitOp .i0 (.reg .a)
  | .bit_1_B => bitOp .i1 (.reg .b)
  | .bit_1_C => bitOp .i1 (.reg .c)
  | .bit_1_D => bitOp .i1 (.reg .d)
  | .bit_1_E => bitOp .i1 (.reg .e)
  | .bit_1_H => bitOp .i1 (.reg .h)
  | .bit_1_L => bitOp .i1 (.reg .l)
  | .bit_1_mHL => bitOp .i1 .atHL
  | .bit_1_A => bitOp .i1 (.reg .a)
  | .bit_2_B => bitOp .i2 (.reg .b)
  | .bit_2_C => bitOp .i2 (.reg .c)
  | .bit_2_D => bitOp .i2 (.reg .d)
  | .bit_2_E => bitOp .i2 (.reg .e)
  | .bit_2_H => bitOp .i2 (.reg .h)
  | .bit_2_L => bitOp .i2 (.reg .l)
  | .bit_2_mHL => bitOp .i2 .atHL
  | .bit_2_A => bitOp .i2 (.reg .a)
  | .bit_3_B => bitOp .i3 (.reg .b)
  | .bit_3_C => bitOp .i3 (.reg .c)
  | .bit_3_D => bitOp .i3 (.reg .d)
  | .bit_3_E => bitOp .i3 (.reg .e)
  | .bit_3_H => bitOp .i3 (.reg .h)
  | .bit_3_L => bitOp .i3 (.reg .l)
  | .bit_3_mHL => bitOp .i3 .atHL
  | .bit_3_A => bitOp .i3 (.reg .a)
  | .bit_4_B => bitOp .i4 (.reg .b)
  | .bit_4_C => bitOp .i4 (.reg .c)
  | .bit_4_D => bitOp .i4 (.reg .d)
  | .bit_4_E => bitOp .i4 (.reg .e)
  | .bit_4_H => bitOp .i4 (.reg .h)
  | .bit_4_L => bitOp .i4 (.reg .l)
  | .bit_4_mHL => bitOp .i4 .atHL
  | .bit_4_A => bitOp .i4 (.reg .a)
  | .bit_5_B => bitOp .i5 (.reg .b)
  | .bit_5_C => bitOp .i5 (.reg .c)
  | .bit_5_D => bitOp .i5 (.reg .d)
  | .bit_5_E => bitOp .i5 (.reg .e)
  | .bit_5_H => bitOp .i5 (.reg .h)
  | .bit_5_L => bitOp .i5 (.reg .l)
  | .bit_5_mHL => bitOp .i5 .atHL
  | .bit_5_A => bitOp .i5 (.reg .a)
  | .bit_6_B => bitOp .i6 (.reg .b)
  | .bit_6_C => bitOp .i6 (.reg .c)
  | .bit_6_D => bitOp .i6 (.reg .d)
  | .bit_6_E => bitOp .i6 (.reg .e)
  | .bit_6_H => bitOp .i6 (.reg .h)
  | .bit_6_L => bitOp .i6 (.reg .l)
  | .bit_6_mHL => bitOp .i6 .atHL
  | .bit_6_A => bitOp .i6 (.reg .a)
  | .bit_7_B => bitOp .i7 (.reg .b)
  | .bit_7_C => bitOp .i7 (.reg .c)
  | .bit_7_D => bitOp .i7 (.reg .d)
  | .bit_7_E => bitOp .i7 (.reg .e)
  | .bit_7_H => bitOp .i7 (.reg .h)
  | .bit_7_L => bitOp .i7 (.reg .l)
  | .bit_7_mHL => bitOp .i7 .atHL
  | .bit_7_A => bitOp .i7 (.reg .a)
  | .res_0_B => resOp .i0 (.reg .b)
  | .res_0_C => resOp .i0 (.reg .c)
  | .res_0_D => resOp .i0 (.reg .d)
  | .res_0_E => resOp .i0 (.reg .e)
  | .res_0_H => resOp .i0 (.reg .h)
  | .res_0_L => resOp .i0 (.reg .l)
  | .res_0_mHL => resOp .i0 .atHL
  | .res_0_A => resOp .i0 (.reg .a)
  | .res_1_B => resOp .i1 (.reg .b)
  | .res_1_C => resOp .i1 (.reg .c)
  | .res_1_D => resOp .i1 (.reg .d)
  | .res_1_E => resOp .i1 (.reg .e)
  | .res_1_H => resOp .i1 (.reg .h)
  | .res_1_L => resOp .i1 (.reg .l)
  | .res_1_mHL => resOp .i1 .atHL
  | .res_1_A => resOp .i1 (.reg .a)
  | .res_2_B => resOp .i2 (.reg .b)
  | .res_2_C => resOp .i2 (.reg .c)
  | .res_2_D => resOp .i2 (.reg .d)
  | .res_2_E => resOp .i2 (.reg .e)
  | .res_2_H => resOp .i2 (.reg .h)
  | .res_2_L => resOp .i2 (.reg .l)
  | .res_2_mHL => resOp .i2 .atHL
  | .res_2_A => resOp .i2 (.reg .a)
  | .res_3_B => resOp .i3 (.reg .b)
  | .res_3_C => resOp .i3 (.reg .c)
  | .res_3_D => resOp .i3 (.reg .d)
  | .res_3_E => resOp .i3 (.reg .e)
  | .res_3_H => resOp .i3 (.reg .h)
  | .res_3_L => resOp .i3 (.reg .l)
  | .res_3_mHL => resOp .i3 .atHL
  | .res_3_A => resOp .i3 (.reg .a)
  | .res_4_B => resOp .i4 (.reg .b)
  | .res_4_C => resOp .i4 (.reg .c)
  | .res_4_D => resOp .i4 (.reg .d)
  | .res_4_E => resOp .i4 (.reg .e)
  | .res_4_H => resOp .i4 (.reg .h)
  | .res_4_L => resOp .i4 (.reg .l)
  | .res_4_mHL => resOp .i4 .atHL
  | .res_4_A => resOp .i4 (.reg .a)
  | .res_5_B => resOp .i5 (.reg .b)
  | .res_5_C => resOp .i5 (.reg .c)
  | .res_5_D => resOp .i5 (.reg .d)
  | .res_5_E => resOp .i5 (.reg .e)
  | .res_5_H => resOp .i5 (.reg .h)
  | .res_5_L => resOp .i5 (.reg .l)
  | .res_5_mHL => resOp .i5 .atHL
  | .res_5_A => resOp .i5 (.reg .a)
  | .res_6_B => resOp .i6 (.reg .b)
  | .res_6_C => resOp .i6 (.reg .c)
  | .res_6_D => resOp .i6 (.reg .d)
  | .res_6_E => resOp .i6 (.reg .e)
  | .res_6_H => resOp .i6 (.reg .h)
  | .res_6_L => resOp .i6 (.reg .l)
  | .res_6_mHL => resOp .i6 .atHL
  | .res_6_A => resOp .i6 (.reg .a)
  | .res_7_B => resOp .i7 (.reg .b)
  | .res_7_C => resOp .i7 (.reg .c)
  | .res_7_D => resOp .i7 (.reg .d)
  | .res_7_E => resOp .i7 (.reg .e)
  | .res_7_H => resOp .i7 (.reg .h)
  | .res_7_L => resOp .i7 (.reg .l)
  | .res_7_mHL => resOp .i7 .atHL
  | .res_7_A => resOp .i7 (.reg .a)
  | .set_0_B => setOp .i0 (.reg .b)
  | .set_0_C => setOp .i0 (.reg .c)
  | .set_0_D => setOp .i0 (.reg .d)
  | .set_0_E => setOp .i0 (.reg .e)
  | .set_0_H => setOp .i0 (.reg .h)
  | .set_0_L => setOp .i0 (.reg .l)
  | .set_0_mHL => setOp .i0 .atHL
  | .set_0_A => setOp .i0 (.reg .a)
  | .set_1_B => setOp .i1 (.reg .b)
  | .set_1_C => setOp .i1 (.reg .c)
  | .set_1_D => setOp .i1 (.reg .d)
  | .set_1_E => setOp .i1 (.reg .e)
  | .set_1_H => setOp .i1 (.reg .h)
  | .set_1_L => setOp .i1 (.reg .l)
  | .set_1_mHL => setOp .i1 .atHL
  | .set_1_A => setOp .i1 (.reg .a)
  | .set_2_B => setOp .i2 (.reg .b)
  | .set_2_C => setOp .i2 (.reg .c)
  | .set_2_D => setOp .i2 (.reg .d)
  | .set_2_E => setOp .i2 (.reg .e)
  | .set_2_H => setOp .i2 (.reg .h)
  | .set_2_L => setOp .i2 (.reg .l)
  | .set_2_mHL => setOp .i2 .atHL
  | .set_2_A => setOp .i2 (.reg .a)
  | .set_3_B => setOp .i3 (.reg .b)
  | .set_3_C => setOp .i3 (.reg .c)
  | .set_3_D => setOp .i3 (.reg .d)
  | .set_3_E => setOp .i3 (.reg .e)
  | .set_3_H => setOp .i3 (.reg .h)
  | .set_3_L => setOp .i3 (.reg .l)
  | .set_3_mHL => setOp .i3 .atHL
  | .set_3_A => setOp .i3 (.reg .a)
  | .set_4_B => setOp .i4 (.reg .b)
  | .set_4_C => setOp .i4 (.reg .c)
  | .set_4_D => setOp .i4 (.reg .d)
  | .set_4_E => setOp .i4 (.reg .e)
  | .set_4_H => setOp .i4 (.reg .h)
  | .set_4_L => setOp .i4 (.reg .l)
  | .set_4_mHL => setOp .i4 .atHL
  | .set_4_A => setOp .i4 (.reg .a)
  | .set_5_B => setOp .i5 (.reg .b)
  | .set_5_C => setOp .i5 (.reg .c)
  | .set_5_D => setOp .i5 (.reg .d)
  | .set_5_E => setOp .i5 (.reg .e)
  | .set_5_H => setOp .i5 (.reg .h)
  | .set_5_L => setOp .i5 (.reg .l)
  | .set_5_mHL => setOp .i5 .atHL
  | .set_5_A => setOp .i5 (.reg .a)
  | .set_6_B => setOp .i6 (.reg .b)
  | .set_6_C => setOp .i6 (.reg .c)
  | .set_6_D => setOp .i6 (.reg .d)
  | .set_6_E => setOp .i6 (.reg .e)
  | .set_6_H => setOp .i6 (.reg .h)
  | .set_6_L => setOp .i6 (.reg .l)
  | .set_6_mHL => setOp .i6 .atHL
  | .set_6_A => setOp .i6 (.reg .a)
  | .set_7_B => setOp .i7 (.reg .b)
  | .set_7_C => setOp .i7 (.reg .c)
  | .set_7_D => setOp .i7 (.reg .d)
  | .set_7_E => setOp .i7 (.reg .e)
  | .set_7_H => setOp .i7 (.reg .h)
  | .set_7_L => setOp .i7 (.reg .l)
  | .set_7_mHL => setOp .i7 .atHL
  | .set_7_A => setOp .i7 (.reg .a)

end Sys2Proof
end

