-- ==== Sys2Proof/Laws/Step.lean ====
section
/-! SUPPORT. What a step can do, by the run state: the inversion that every statement about steps begins with. -/

namespace Sys2Proof.Machine

theorem step_of_running {s : State} (h : s.run = .running) :
    step s = finishStep s.eiPending (exec (fetchInstr s).1 (advance (fetchInstr s).2 s)) := by
  simp [step, h]

theorem step_of_halted {s : State} (h : s.run = .halted) : step s = .next s := by simp [step, h]

theorem step_of_faulted {s : State} {r : Fault} (h : s.run = .faulted r) : step s = .fault r := by simp [step, h]

/-- A step that answers a next state is a step of a Halted machine, which changes nothing, or the fetched instruction's next
state followed by the EI delay. -/
theorem step_next_cases {s t : State} (h : step s = .next t) :
    (s.run = .halted ∧ t = s) ∨
      (s.run = .running ∧ ∃ u, exec (fetchInstr s).1 (advance (fetchInstr s).2 s) = .next u ∧
        t = resolveEi s.eiPending u) := by
  cases hr : s.run with
  | running =>
    rw [step_of_running hr] at h
    exact .inr ⟨rfl, finishStep_next h⟩
  | halted =>
    rw [step_of_halted hr] at h
    injection h with h
    exact .inl ⟨rfl, h.symm⟩
  | faulted r =>
    rw [step_of_faulted hr] at h
    injection h

end Sys2Proof.Machine
end

