-- ==== Sys2Proof/Tests/Slice0.lean ====
section
/-! SUPPORT. The model's own tests: the well-formedness check, words written out from the encodings of 30_encoding.md and of
the instruction rules, single steps taken from the vectors of 95_test_vectors.md, and a witness for the hypotheses of each
statement. -/

open Sys2Proof Sys2Proof.Machine Sys2Proof.Statements

namespace Sys2Proof.Tests

/-! ## Well-formedness: an ill-formed term for each check -/

/-- 0x00 has an entry, so it is no byte of 30_encoding.md R86. -/
theorem test_wellFormed_refuses_no_entry_of_an_assigned_byte : (Instr.no_entry 0x00).WellFormed = false := by decide
theorem test_wellFormed_takes_no_entry_of_an_unassigned_byte : (Instr.no_entry 0xFD).WellFormed = true := by decide
/-- The prefix is no instruction (R79). -/
theorem test_wellFormed_refuses_the_prefix : (Instr.prefix_CB 0x37).WellFormed = false := by decide

/-! ## Decoding: every constructor, by words written out from the spec's encodings -/

/-- R190 to R193: `01 ddd sss`, `00 rrr 110` n, `01 rrr 110`, `01 110 rrr`. -/
theorem test_decode_register_loads (r q : Reg8) (n : Byte) :
    decode [0b01#2 ++ r.code ++ q.code] = .ok (.ldRegReg r q, []) ∧
    decode [0b00#2 ++ r.code ++ 0b110#3, n] = .ok (.ldRegImm r n, []) ∧
    decode [0b01#2 ++ r.code ++ 0b110#3] = .ok (.ldRegHL r, []) ∧
    decode [0b01#2 ++ 0b110#3 ++ r.code] = .ok (.ldHLReg r, []) := by
  cases r <;> cases q <;> exact ⟨rfl, rfl, rfl, rfl⟩

/-- R77: `10 alu r` and `11 alu 110` n. -/
theorem test_decode_alu (op : AluOp) (o : Operand) (n : Byte) :
    decode [0b10#2 ++ op.code ++ o.code] = .ok (.alu op o, []) ∧
    decode [0b11#2 ++ op.code ++ 0b110#3, n] = .ok (.aluImm op n, []) := by
  cases op <;> cases o <;> first | exact ⟨rfl, rfl⟩ | (rename_i r; cases r <;> exact ⟨rfl, rfl⟩)

/-- R174 to R177: `00 rrr 100` and `00 rrr 101`. -/
theorem test_decode_inc_dec (o : Operand) :
    decode [0b00#2 ++ o.code ++ 0b100#3] = .ok (.incOp o, []) ∧
    decode [0b00#2 ++ o.code ++ 0b101#3] = .ok (.decOp o, []) := by
  cases o <;> first | exact ⟨rfl, rfl⟩ | (rename_i r; cases r <;> exact ⟨rfl, rfl⟩)

/-- R220, R230 to R232: `00 dd 0001` lo hi, `00 dd 1001`, `00 dd 0011`, `00 dd 1011`; the word is 0x1234. -/
theorem test_decode_pairs (p : PairSP) :
    decode [0b00#2 ++ p.code ++ 0b0001#4, 0x34, 0x12] = .ok (.ldPairImm p 0x1234, []) ∧
    decode [0b00#2 ++ p.code ++ 0b1001#4] = .ok (.addHLPair p, []) ∧
    decode [0b00#2 ++ p.code ++ 0b0011#4] = .ok (.incPair p, []) ∧
    decode [0b00#2 ++ p.code ++ 0b1011#4] = .ok (.decPair p, []) := by
  cases p <;> exact ⟨rfl, rfl, rfl, rfl⟩

/-- R223, R224: `11 qq 0101` and `11 qq 0001`. -/
theorem test_decode_push_pop (p : PairAF) :
    decode [0b11#2 ++ p.code ++ 0b0101#4] = .ok (.push p, []) ∧
    decode [0b11#2 ++ p.code ++ 0b0001#4] = .ok (.pop p, []) := by
  cases p <;> exact ⟨rfl, rfl⟩

/-- R241, R244, R246, R248, R250: `110 cc 010` lo hi, `001 cc 000` e, `110 cc 100` lo hi, `110 cc 000`, `11 ttt 111`. -/
theorem test_decode_conditional_control (cc : Cond) (t : Index3) (e : Byte) :
    decode [0b110#3 ++ cc.code ++ 0b010#3, 0x34, 0x12] = .ok (.jpIf cc 0x1234, []) ∧
    decode [0b001#3 ++ cc.code ++ 0b000#3, e] = .ok (.jrIf cc e, []) ∧
    decode [0b110#3 ++ cc.code ++ 0b100#3, 0x34, 0x12] = .ok (.callIf cc 0x1234, []) ∧
    decode [0b110#3 ++ cc.code ++ 0b000#3] = .ok (.retIf cc, []) ∧
    decode [0b11#2 ++ t.code ++ 0b111#3] = .ok (.rst t, []) := by
  cases cc <;> cases t <;> exact ⟨rfl, rfl, rfl, rfl, rfl⟩

/-- R80: `CB ggyyyrrr`. -/
theorem test_decode_cb_shifts (op : ShiftOp) (o : Operand) :
    decode [0xCB, 0b00#2 ++ op.code ++ o.code] = .ok (.shift op o, []) := by
  cases op <;> cases o <;> first | rfl | (rename_i r; cases r <;> rfl)
theorem test_decode_cb_bits (b : Index3) (o : Operand) :
    decode [0xCB, 0b01#2 ++ b.code ++ o.code] = .ok (.bitOp b o, []) ∧
    decode [0xCB, 0b10#2 ++ b.code ++ o.code] = .ok (.resOp b o, []) ∧
    decode [0xCB, 0b11#2 ++ b.code ++ o.code] = .ok (.setOp b o, []) := by
  cases b <;> cases o <;> first | exact ⟨rfl, rfl, rfl⟩ | (rename_i r; cases r <;> exact ⟨rfl, rfl, rfl⟩)

/-- The single words of R84 with no operand bytes. -/
theorem test_decode_single_bytes :
    decode [0b00000000] = .ok (.nop, []) ∧ decode [0b01110110] = .ok (.halt, []) ∧
    decode [0b00000010] = .ok (.ld_mBC_A, []) ∧ decode [0b00010010] = .ok (.ld_mDE_A, []) ∧
    decode [0b00001010] = .ok (.ld_A_mBC, []) ∧ decode [0b00011010] = .ok (.ld_A_mDE, []) ∧
    decode [0b00100010] = .ok (.ld_mHLi_A, []) ∧ decode [0b00110010] = .ok (.ld_mHLd_A, []) ∧
    decode [0b00101010] = .ok (.ld_A_mHLi, []) ∧ decode [0b00111010] = .ok (.ld_A_mHLd, []) ∧
    decode [0b00000111] = .ok (.rlca, []) ∧ decode [0b00001111] = .ok (.rrca, []) ∧
    decode [0b00010111] = .ok (.rla, []) ∧ decode [0b00011111] = .ok (.rra, []) ∧
    decode [0b00100111] = .ok (.daa, []) ∧ decode [0b00101111] = .ok (.cpl, []) ∧
    decode [0b00110111] = .ok (.scf, []) ∧ decode [0b00111111] = .ok (.ccf, []) ∧
    decode [0b11100010] = .ok (.ld_mC_A, []) ∧ decode [0b11110010] = .ok (.ld_A_mC, []) ∧
    decode [0b11111001] = .ok (.ld_SP_HL, []) ∧ decode [0b11101001] = .ok (.jp_HL, []) ∧
    decode [0b11001001] = .ok (.ret, []) ∧ decode [0b11011001] = .ok (.reti, []) ∧
    decode [0b11110011] = .ok (.di, []) ∧ decode [0b11111011] = .ok (.ei, []) := by
  and_intros <;> rfl

/-- The words of R84 with operand bytes; a 16-bit operand's low byte comes first (R83), and STOP keeps its ignored byte (R91). -/
theorem test_decode_operand_bytes :
    decode [0b00010000, 0xA5] = .ok (.stop 0xA5, []) ∧ decode [0b00110110, 0x77] = .ok (.ld_mHL_n 0x77, []) ∧
    decode [0b00011000, 0xFE] = .ok (.jr_e 0xFE, []) ∧ decode [0b11100000, 0x80] = .ok (.ldh_mn_A 0x80, []) ∧
    decode [0b11110000, 0x80] = .ok (.ldh_A_mn 0x80, []) ∧ decode [0b11101000, 0x80] = .ok (.add_SP_e 0x80, []) ∧
    decode [0b11111000, 0x80] = .ok (.ld_HL_SPe 0x80, []) ∧
    decode [0b00001000, 0x00, 0xC1] = .ok (.ld_mnn_SP 0xC100, []) ∧
    decode [0b11101010, 0x00, 0xC1] = .ok (.ld_mnn_A 0xC100, []) ∧
    decode [0b11111010, 0x00, 0xC1] = .ok (.ld_A_mnn 0xC100, []) ∧
    decode [0b11000011, 0x50, 0x01] = .ok (.jp_nn 0x0150, []) ∧
    decode [0b11001101, 0x34, 0x12] = .ok (.call_nn 0x1234, []) := by
  and_intros <;> rfl

/-- R86: the eleven bytes without an entry, and nothing after them is read. -/
theorem test_decode_unassigned : unassignedOpcodes.map (fun op => (decode [op, 0x55]).toOption) =
    [0xD3, 0xDB, 0xDD, 0xE3, 0xE4, 0xEB, 0xEC, 0xED, 0xF4, 0xFC, 0xFD].map fun op => some (.no_entry op, [0x55]) := by decide

/-- A list that ends inside an instruction gives none. -/
theorem test_decode_refuses_a_cut_instruction :
    decode [] = .error .outOfBytes ∧ decode [0xC3, 0x50] = .error .outOfBytes ∧ decode [0xCB] = .error .outOfBytes :=
  ⟨rfl, rfl, rfl⟩

/-- The numbers of spec/opcode_table.json: a base opcode, a CB row (prefix high), operand bytes above the opcode. -/
theorem test_decodeTableWord :
    decodeTableWord 8 0x76 = some .halt ∧ decodeTableWord 16 0xCB37 = some .swap_A ∧
    decodeTableWord 8 0x06 = some (.ld_B_n 0) ∧
    decodeTableWord 16 0x2A06 = some (.ld_B_n 0x2A) ∧ decodeTableWord 24 0x1234CD = some (.call_nn 0x1234) ∧
    decodeTableWord 8 0xD3 = some (.no_entry 0xD3) := by decide

/-- A step after reset runs the instruction that withFetchWord stores, as its first one. -/
theorem test_withFetchWord :
    step (State.reset.withFetchWord 16 0xCB30) =
      .next { State.reset.withFetchWord 16 0xCB30 with b := 0x90, pc := 0x0002 } ∧
    step (State.reset.withFetchWord 8 0xC3) = .next (State.reset.withFetchWord 8 0xC3) ∧
    step (State.reset.withFetchWord 8 0x3E) = .next { State.reset.withFetchWord 8 0x3E with a := 0x00, pc := 0x0002 } :=
  ⟨rfl, rfl, rfl⟩

/-! ## Single steps -/

/-- `s` with `bytes` from `at'` upwards and `data` in memory, about to run the instruction at `at'`. -/
def placed (bytes : List Byte) (data : List (Word × Byte)) (s : State) (at' : Word := 0x0100) : State :=
  { s with
    pc := at'
    mem := data.foldl (fun m c => m.write c.1 c.2) (placeBytes [] at' (bytes.getD 0 0) (bytes.getD 1 0) (bytes.getD 2 0)) }

/-- Every address writable but one, under this policy. -/
def allBut (addr : Word) (policy : RoWritePolicy) : Config :=
  { Config.default with readOnly := [(addr, addr)], roWritePolicy := policy }

/-- One step from `s` ends in `after s`, nothing else changed, and costs `cost`. -/
abbrev Runs (s : State) (cost : Nat) (after : State → State) : Prop :=
  step s = .next (after s) ∧ stepReturn s = some (.ok cost)

/-- One step from `s` faults and leaves `after s` with the fault recorded. -/
abbrev Faults (s : State) (reason : Fault) (after : State → State) : Prop :=
  step s = .next { after s with run := .faulted reason } ∧ stepReturn s = some (.fault reason)

/-! 8-bit arithmetic and logic (95_test_vectors.md 2.1). -/

theorem test_ADD_A_A : Runs (placed [0x87] [] { State.reset with a := 0x80 }) 4
    fun s => { s with a := 0x00, f := 0x90, pc := 0x0101 } := ⟨rfl, rfl⟩
theorem test_ADD_A_mHL : Runs (placed [0x86] [(0xC000, 0x0F)] { State.reset with a := 0x01, h := 0xC0, l := 0x00 }) 8
    fun s => { s with a := 0x10, f := 0x20, pc := 0x0101 } := ⟨rfl, rfl⟩
theorem test_ADD_A_n : Runs (placed [0xC6, 0xFF] [] { State.reset with a := 0x01 }) 8
    fun s => { s with a := 0x00, f := 0xB0, pc := 0x0102 } := ⟨rfl, rfl⟩
theorem test_ADC_A_A : Runs (placed [0x8F] [] { State.reset with a := 0x88, f := 0x10 }) 4
    fun s => { s with a := 0x11, f := 0x30, pc := 0x0101 } := ⟨rfl, rfl⟩
theorem test_ADC_A_mHL : Runs (placed [0x8E] [] { State.reset with a := 0x0F, h := 0xC0, l := 0x00, f := 0x10 }) 8
    fun s => { s with a := 0x10, f := 0x20, pc := 0x0101 } := ⟨rfl, rfl⟩
theorem test_ADC_A_n : Runs (placed [0xCE, 0xFF] [] { State.reset with a := 0x00, f := 0x10 }) 8
    fun s => { s with f := 0xB0, pc := 0x0102 } := ⟨rfl, rfl⟩
theorem test_SUB_A : Runs (placed [0x97] [] { State.reset with a := 0x5A, f := 0x10 }) 4
    fun s => { s with a := 0x00, f := 0xC0, pc := 0x0101 } := ⟨rfl, rfl⟩
theorem test_SUB_mHL : Runs (placed [0x96] [(0xC000, 0x20)] { State.reset with a := 0x10, h := 0xC0, l := 0x00 }) 8
    fun s => { s with a := 0xF0, f := 0x50, pc := 0x0101 } := ⟨rfl, rfl⟩
theorem test_SUB_n : Runs (placed [0xD6, 0x0F] [] { State.reset with a := 0x3E }) 8
    fun s => { s with a := 0x2F, f := 0x60, pc := 0x0102 } := ⟨rfl, rfl⟩
theorem test_SBC_A_A : Runs (placed [0x9F] [] { State.reset with a := 0x42 }) 4
    fun s => { s with a := 0x00, f := 0xC0, pc := 0x0101 } := ⟨rfl, rfl⟩
theorem test_SBC_A_mHL : Runs (placed [0x9E] [(0xC000, 0xFF)] { State.reset with a := 0x00, h := 0xC0, l := 0x00, f := 0x10 }) 8
    fun s => { s with f := 0xF0, pc := 0x0101 } := ⟨rfl, rfl⟩
theorem test_SBC_A_n : Runs (placed [0xDE, 0x0F] [] { State.reset with a := 0x10, f := 0x10 }) 8
    fun s => { s with a := 0x00, f := 0xE0, pc := 0x0102 } := ⟨rfl, rfl⟩
theorem test_AND_B : Runs (placed [0xA0] [] { State.reset with a := 0x5A, b := 0x3F, f := 0x10 }) 4
    fun s => { s with a := 0x1A, f := 0x20, pc := 0x0101 } := ⟨rfl, rfl⟩
theorem test_AND_mHL : Runs (placed [0xA6] [(0xC000, 0x0F)] { State.reset with a := 0xF0, h := 0xC0, l := 0x00 }) 8
    fun s => { s with a := 0x00, f := 0xA0, pc := 0x0101 } := ⟨rfl, rfl⟩
theorem test_AND_n : Runs (placed [0xE6, 0x38] [] { State.reset with a := 0x5A }) 8
    fun s => { s with a := 0x18, f := 0x20, pc := 0x0102 } := ⟨rfl, rfl⟩
theorem test_XOR_A : Runs (placed [0xAF] [] { State.reset with a := 0x5A, f := 0x70 }) 4
    fun s => { s with a := 0x00, f := 0x80, pc := 0x0101 } := ⟨rfl, rfl⟩
theorem test_XOR_mHL : Runs (placed [0xAE] [(0xC000, 0x8A)] { State.reset with a := 0xFF, h := 0xC0, l := 0x00 }) 8
    fun s => { s with a := 0x75, pc := 0x0101 } := ⟨rfl, rfl⟩
theorem test_XOR_n : Runs (placed [0xEE, 0x0F] [] { State.reset with a := 0xFF }) 8
    fun s => { s with a := 0xF0, pc := 0x0102 } := ⟨rfl, rfl⟩
theorem test_OR_C : Runs (placed [0xB1] [] { State.reset with a := 0x5A, c := 0x00, f := 0x30 }) 4
    fun s => { s with f := 0x00, pc := 0x0101 } := ⟨rfl, rfl⟩
theorem test_OR_mHL : Runs (placed [0xB6] [] { State.reset with a := 0x00, h := 0xC0, l := 0x00 }) 8
    fun s => { s with f := 0x80, pc := 0x0101 } := ⟨rfl, rfl⟩
theorem test_OR_n : Runs (placed [0xF6, 0x03] [] { State.reset with a := 0x5A }) 8
    fun s => { s with a := 0x5B, pc := 0x0102 } := ⟨rfl, rfl⟩
theorem test_CP_A : Runs (placed [0xBF] [] { State.reset with a := 0x3C, f := 0x10 }) 4
    fun s => { s with f := 0xC0, pc := 0x0101 } := ⟨rfl, rfl⟩
theorem test_CP_mHL : Runs (placed [0xBE] [(0xC000, 0x40)] { State.reset with a := 0x3C, h := 0xC0, l := 0x00 }) 8
    fun s => { s with f := 0x50, pc := 0x0101 } := ⟨rfl, rfl⟩
theorem test_CP_n : Runs (placed [0xFE, 0x3C] [] { State.reset with a := 0x3C }) 8
    fun s => { s with f := 0xC0, pc := 0x0102 } := ⟨rfl, rfl⟩
theorem test_INC_L : Runs (placed [0x2C] [] { State.reset with l := 0x50, f := 0xF0 }) 4
    fun s => { s with l := 0x51, f := 0x10, pc := 0x0101 } := ⟨rfl, rfl⟩
theorem test_INC_mHL : Runs (placed [0x34] [(0xC000, 0xFF)] { State.reset with h := 0xC0, l := 0x00, f := 0x10 }) 12
    fun s => { s with f := 0xB0, pc := 0x0101, mem := s.mem.write 0xC000 0x00 } := ⟨rfl, rfl⟩
theorem test_DEC_E : Runs (placed [0x1D] [] { State.reset with e := 0x10, f := 0x80 }) 4
    fun s => { s with e := 0x0F, f := 0x60, pc := 0x0101 } := ⟨rfl, rfl⟩
theorem test_DEC_mHL : Runs (placed [0x35] [(0xC000, 0x10)] { State.reset with h := 0xC0, l := 0x00 }) 12
    fun s => { s with f := 0x60, pc := 0x0101, mem := s.mem.write 0xC000 0x0F } := ⟨rfl, rfl⟩

/-! Accumulator rotates and miscellaneous (95_test_vectors.md 2.2). -/

theorem test_RLCA : Runs (placed [0x07] [] { State.reset with a := 0x00, f := 0x80 }) 4
    fun s => { s with f := 0x00, pc := 0x0101 } := ⟨rfl, rfl⟩
theorem test_RRCA : Runs (placed [0x0F] [] { State.reset with a := 0x3B }) 4
    fun s => { s with a := 0x9D, f := 0x10, pc := 0x0101 } := ⟨rfl, rfl⟩
theorem test_RLA_plain : Runs (placed [0x17] [] { State.reset with a := 0x01, f := 0x10 }) 4
    fun s => { s with a := 0x02, f := 0x00, pc := 0x0101 } := ⟨rfl, rfl⟩
theorem test_RLA_through_carry :
    Runs (placed [0x17] [] { State.reset with a := 0x80, cfg := { Config.default with rlCarryIn := true } }) 4
    fun s => { s with a := 0x00, f := 0x10, pc := 0x0101 } := ⟨rfl, rfl⟩
theorem test_RRA_plain : Runs (placed [0x1F] [] { State.reset with a := 0x80, f := 0x10 }) 4
    fun s => { s with a := 0x40, f := 0x00, pc := 0x0101 } := ⟨rfl, rfl⟩
theorem test_RRA_through_carry :
    Runs (placed [0x1F] [] { State.reset with a := 0x01, cfg := { Config.default with rlCarryIn := true } }) 4
    fun s => { s with a := 0x00, f := 0x10, pc := 0x0101 } := ⟨rfl, rfl⟩
theorem test_DAA_after_99_01 : Runs (placed [0x27] [] { State.reset with a := 0x9A }) 4
    fun s => { s with a := 0x00, f := 0x90, pc := 0x0101 } := ⟨rfl, rfl⟩
theorem test_DAA_N_1_H_1_C_1 : Runs (placed [0x27] [] { State.reset with a := 0x00, f := 0x70 }) 4
    fun s => { s with a := 0x9A, f := 0x50, pc := 0x0101 } := ⟨rfl, rfl⟩
theorem test_CPL : Runs (placed [0x2F] [] { State.reset with a := 0xFF, f := 0x90 }) 4
    fun s => { s with a := 0x00, f := 0xF0, pc := 0x0101 } := ⟨rfl, rfl⟩
theorem test_SCF : Runs (placed [0x37] [] { State.reset with f := 0xE0 }) 4
    fun s => { s with f := 0x90, pc := 0x0101 } := ⟨rfl, rfl⟩
theorem test_CCF : Runs (placed [0x3F] [] { State.reset with f := 0x80 }) 4
    fun s => { s with f := 0x90, pc := 0x0101 } := ⟨rfl, rfl⟩

/-! 8-bit loads (95_test_vectors.md 2.3). -/

theorem test_LD_A_H : Runs (placed [0x7C] [] { State.reset with a := 0x00, h := 0xC3 }) 4
    fun s => { s with a := 0xC3, pc := 0x0101 } := ⟨rfl, rfl⟩
theorem test_LD_L_n : Runs (placed [0x2E, 0xFF] [] State.reset) 8 fun s => { s with l := 0xFF, pc := 0x0102 } := ⟨rfl, rfl⟩
theorem test_LD_H_mHL : Runs (placed [0x66] [(0xC000, 0x12)] { State.reset with h := 0xC0, l := 0x00 }) 8
    fun s => { s with h := 0x12, pc := 0x0101 } := ⟨rfl, rfl⟩
theorem test_LD_A_mHL : Runs (placed [0x7E] [(0xC000, 0x99)] { State.reset with h := 0xC0, l := 0x00 }) 8
    fun s => { s with a := 0x99, pc := 0x0101 } := ⟨rfl, rfl⟩
theorem test_LD_mHL_H : Runs (placed [0x74] [] { State.reset with h := 0xC0, l := 0x12 }) 8
    fun s => { s with pc := 0x0101, mem := s.mem.write 0xC012 0xC0 } := ⟨rfl, rfl⟩
theorem test_LD_mHL_n : Runs (placed [0x36, 0x77] [] { State.reset with h := 0xC0, l := 0x00 }) 12
    fun s => { s with pc := 0x0102, mem := s.mem.write 0xC000 0x77 } := ⟨rfl, rfl⟩
theorem test_LD_A_BC : Runs (placed [0x0A] [(0xC000, 0x5E)] { State.reset with b := 0xC0, c := 0x00 }) 8
    fun s => { s with a := 0x5E, pc := 0x0101 } := ⟨rfl, rfl⟩
theorem test_LD_A_DE : Runs (placed [0x1A] [(0xC001, 0x6F)] { State.reset with d := 0xC0, e := 0x01 }) 8
    fun s => { s with a := 0x6F, pc := 0x0101 } := ⟨rfl, rfl⟩
theorem test_LD_BC_A : Runs (placed [0x02] [] { State.reset with a := 0x3F, b := 0xC0, c := 0x00 }) 8
    fun s => { s with pc := 0x0101, mem := s.mem.write 0xC000 0x3F } := ⟨rfl, rfl⟩
theorem test_LD_DE_A : Runs (placed [0x12] [] { State.reset with a := 0x3F, d := 0xC0, e := 0x02 }) 8
    fun s => { s with pc := 0x0101, mem := s.mem.write 0xC002 0x3F } := ⟨rfl, rfl⟩
theorem test_LD_A_nn : Runs (placed [0xFA, 0x00, 0xC1] [(0xC100, 0xAB)] State.reset) 16
    fun s => { s with a := 0xAB, pc := 0x0103 } := ⟨rfl, rfl⟩
theorem test_LD_nn_A : Runs (placed [0xEA, 0x00, 0xC1] [] { State.reset with a := 0x42 }) 16
    fun s => { s with pc := 0x0103, mem := s.mem.write 0xC100 0x42 } := ⟨rfl, rfl⟩
theorem test_LDH_A_n : Runs (placed [0xF0, 0x44] [(0xFF44, 0x91)] State.reset) 12
    fun s => { s with a := 0x91, pc := 0x0102 } := ⟨rfl, rfl⟩
theorem test_LDH_n_A_n_FF : Runs (placed [0xE0, 0xFF] [] { State.reset with a := 0x1F }) 12
    fun s => { s with pc := 0x0102, mem := s.mem.write 0xFFFF 0x1F } := ⟨rfl, rfl⟩
theorem test_LD_A_C : Runs (placed [0xF2] [(0xFF10, 0x80)] { State.reset with c := 0x10 }) 8
    fun s => { s with a := 0x80, pc := 0x0101 } := ⟨rfl, rfl⟩
theorem test_LD_C_A : Runs (placed [0xE2] [] { State.reset with a := 0x77, c := 0x26 }) 8
    fun s => { s with pc := 0x0101, mem := s.mem.write 0xFF26 0x77 } := ⟨rfl, rfl⟩
theorem test_LD_A_HLi_at_FFFF : Runs (placed [0x2A] [(0xFFFF, 0x01)] { State.reset with h := 0xFF, l := 0xFF }) 8
    fun s => { s with a := 0x01, h := 0x00, l := 0x00, pc := 0x0101 } := ⟨rfl, rfl⟩
theorem test_LD_A_HLd : Runs (placed [0x3A] [] { State.reset with h := 0x00, l := 0x00 }) 8
    fun s => { s with a := 0x00, h := 0xFF, l := 0xFF, pc := 0x0101 } := ⟨rfl, rfl⟩
theorem test_LD_HLd_A : Runs (placed [0x32] [] { State.reset with a := 0x05, h := 0xC0, l := 0x01 }) 8
    fun s => { s with l := 0x00, pc := 0x0101, mem := s.mem.write 0xC001 0x05 } := ⟨rfl, rfl⟩

/-! 16-bit loads and the stack (95_test_vectors.md 2.4). -/

theorem test_LD_SP_nn : Runs (placed [0x31, 0x01, 0x00] [] State.reset) 12
    fun s => { s with sp := 0x0001, pc := 0x0103 } := ⟨rfl, rfl⟩
theorem test_LD_nn_SP_nn_FFFF : Runs (placed [0x08, 0xFF, 0xFF] [] { State.reset with sp := 0xABCD }) 20
    fun s => { s with pc := 0x0103, mem := (s.mem.write 0xFFFF 0xCD).write 0x0000 0xAB } := ⟨rfl, rfl⟩
theorem test_LD_SP_HL : Runs (placed [0xF9] [] { State.reset with h := 0xD0, l := 0x00 }) 8
    fun s => { s with sp := 0xD000, pc := 0x0101 } := ⟨rfl, rfl⟩
theorem test_PUSH_DE_sp_0001 : Runs (placed [0xD5] [] { State.reset with d := 0xBE, e := 0xEF, sp := 0x0001 }) 16
    fun s => { s with sp := 0xFFFF, pc := 0x0101, mem := (s.mem.write 0x0000 0xBE).write 0xFFFF 0xEF } := ⟨rfl, rfl⟩
theorem test_POP_BC_sp_FFFF : Runs (placed [0xC1] [(0xFFFF, 0x78), (0x0000, 0x56)] { State.reset with sp := 0xFFFF }) 12
    fun s => { s with b := 0x56, c := 0x78, sp := 0x0001, pc := 0x0101 } := ⟨rfl, rfl⟩
theorem test_LD_HL_SP_e_e_80 : Runs (placed [0xF8, 0x80] [] { State.reset with sp := 0x00FF }) 12
    fun s => { s with l := 0x7F, f := 0x10, pc := 0x0102 } := ⟨rfl, rfl⟩

/-! 16-bit arithmetic (95_test_vectors.md 2.5). -/

theorem test_ADD_HL_SP : Runs (placed [0x39] [] { State.reset with h := 0x0F, l := 0xFF, sp := 0x0001 }) 8
    fun s => { s with h := 0x10, l := 0x00, f := 0x20, pc := 0x0101 } := ⟨rfl, rfl⟩
theorem test_INC_SP : Runs (placed [0x33] [] { State.reset with sp := 0xFFFF }) 8
    fun s => { s with sp := 0x0000, pc := 0x0101 } := ⟨rfl, rfl⟩
theorem test_DEC_SP : Runs (placed [0x3B] [] { State.reset with sp := 0x0000 }) 8
    fun s => { s with sp := 0xFFFF, pc := 0x0101 } := ⟨rfl, rfl⟩
theorem test_ADD_SP_e_e_01 : Runs (placed [0xE8, 0x01] [] { State.reset with sp := 0x000F }) 16
    fun s => { s with f := 0x20, sp := 0x0010, pc := 0x0102 } := ⟨rfl, rfl⟩

/-! Control transfer (95_test_vectors.md 2.6). -/

theorem test_JP_nn : Runs (placed [0xC3, 0x50, 0x01] [] State.reset) 16 fun s => { s with pc := 0x0150 } := ⟨rfl, rfl⟩
theorem test_JP_Z_nn_taken : Runs (placed [0xCA, 0x00, 0x20] [] { State.reset with f := 0x80 }) 16
    fun s => { s with pc := 0x2000 } := ⟨rfl, rfl⟩
theorem test_JP_C_nn_not_taken : Runs (placed [0xDA, 0x00, 0x20] [] State.reset) 12
    fun s => { s with pc := 0x0103 } := ⟨rfl, rfl⟩
theorem test_JP_HL : Runs (placed [0xE9] [] { State.reset with h := 0x80, l := 0x00 }) 4
    fun s => { s with pc := 0x8000 } := ⟨rfl, rfl⟩
theorem test_JR_e_0x7F_at_FFF0 : Runs (placed [0x18, 0x7F] [] State.reset 0xFFF0) 12
    fun s => { s with pc := 0x0071 } := ⟨rfl, rfl⟩
theorem test_JR_NZ_e_taken : Runs (placed [0x20, 0xFC] [] State.reset) 12 fun s => { s with pc := 0x00FE } := ⟨rfl, rfl⟩
theorem test_JR_C_e_taken : Runs (placed [0x38, 0x10] [] { State.reset with f := 0x10 }) 12
    fun s => { s with pc := 0x0112 } := ⟨rfl, rfl⟩
theorem test_CALL_nn : Runs (placed [0xCD, 0x34, 0x12] [] State.reset) 24
    fun s => { s with sp := 0xFFFC, pc := 0x1234, mem := (s.mem.write 0xFFFD 0x01).write 0xFFFC 0x03 } := ⟨rfl, rfl⟩
theorem test_CALL_C_nn_taken : Runs (placed [0xDC, 0x34, 0x12] [] { State.reset with f := 0x10 }) 24
    fun s => { s with sp := 0xFFFC, pc := 0x1234, mem := (s.mem.write 0xFFFD 0x01).write 0xFFFC 0x03 } := ⟨rfl, rfl⟩
theorem test_CALL_NZ_nn_not_taken : Runs (placed [0xC4, 0x34, 0x12] [] { State.reset with f := 0x80 }) 12
    fun s => { s with pc := 0x0103 } := ⟨rfl, rfl⟩
theorem test_RET : Runs (placed [0xC9] [(0xCFFE, 0x08)] { State.reset with sp := 0xCFFE }) 16
    fun s => { s with sp := 0xD000, pc := 0x0008 } := ⟨rfl, rfl⟩
theorem test_RET_Z_taken : Runs (placed [0xC8] [(0xCFFE, 0x08)] { State.reset with sp := 0xCFFE, f := 0x80 }) 20
    fun s => { s with sp := 0xD000, pc := 0x0008 } := ⟨rfl, rfl⟩
theorem test_RET_Z_not_taken : Runs (placed [0xC8] [(0xCFFE, 0x08)] { State.reset with sp := 0xCFFE }) 8
    fun s => { s with pc := 0x0101 } := ⟨rfl, rfl⟩
theorem test_RETI : Runs (placed [0xD9] [(0xCFFE, 0x08)] { State.reset with sp := 0xCFFE }) 16
    fun s => { s with sp := 0xD000, pc := 0x0008, ime := true } := ⟨rfl, rfl⟩
theorem test_RST_00h : Runs (placed [0xC7] [] State.reset) 16
    fun s => { s with sp := 0xFFFC, pc := 0x0000, mem := (s.mem.write 0xFFFD 0x01).write 0xFFFC 0x01 } := ⟨rfl, rfl⟩

/-! System (95_test_vectors.md 2.7). -/

theorem test_NOP : Runs (placed [0x00] [] State.reset) 4 fun s => { s with pc := 0x0101 } := ⟨rfl, rfl⟩
theorem test_HALT : Runs (placed [0x76] [] State.reset) 4 fun s => { s with pc := 0x0101, run := .halted } := ⟨rfl, rfl⟩
theorem test_STOP : Runs (placed [0x10, 0x00] [] State.reset) 4 fun s => { s with pc := 0x0102, run := .halted } := ⟨rfl, rfl⟩
theorem test_DI : Runs (placed [0xF3] [] { State.reset with ime := true }) 4
    fun s => { s with pc := 0x0101, ime := false } := ⟨rfl, rfl⟩
theorem test_EI : Runs (placed [0xFB] [] State.reset) 4 fun s => { s with pc := 0x0101, eiPending := true } := ⟨rfl, rfl⟩

/-! CB-prefixed instructions (95_test_vectors.md 2.8). -/

theorem test_RLC_mHL : Runs (placed [0xCB, 0x06] [(0xC000, 0xF0)] { State.reset with h := 0xC0, l := 0x00, f := 0x10 }) 16
    fun s => { s with pc := 0x0102, mem := s.mem.write 0xC000 0xE1 } := ⟨rfl, rfl⟩
theorem test_RRC_B_C_1 : Runs (placed [0xCB, 0x08] [] { State.reset with b := 0x85, f := 0x10 }) 8
    fun s => { s with b := 0xC2, pc := 0x0102 } := ⟨rfl, rfl⟩
theorem test_RRC_mHL : Runs (placed [0xCB, 0x0E] [(0xC000, 0xF0)] { State.reset with h := 0xC0, l := 0x00, f := 0x10 }) 16
    fun s => { s with f := 0x00, pc := 0x0102, mem := s.mem.write 0xC000 0x78 } := ⟨rfl, rfl⟩
theorem test_RL_B_C_1 : Runs (placed [0xCB, 0x10] [] { State.reset with b := 0x85, f := 0x10 }) 8
    fun s => { s with b := 0x0B, pc := 0x0102 } := ⟨rfl, rfl⟩
theorem test_RL_mHL : Runs (placed [0xCB, 0x16] [(0xC000, 0xF0)] { State.reset with h := 0xC0, l := 0x00, f := 0x10 }) 16
    fun s => { s with pc := 0x0102, mem := s.mem.write 0xC000 0xE1 } := ⟨rfl, rfl⟩
theorem test_RR_B_C_1 : Runs (placed [0xCB, 0x18] [] { State.reset with b := 0x85, f := 0x10 }) 8
    fun s => { s with b := 0xC2, pc := 0x0102 } := ⟨rfl, rfl⟩
theorem test_RR_mHL : Runs (placed [0xCB, 0x1E] [(0xC000, 0xF0)] { State.reset with h := 0xC0, l := 0x00, f := 0x10 }) 16
    fun s => { s with f := 0x00, pc := 0x0102, mem := s.mem.write 0xC000 0xF8 } := ⟨rfl, rfl⟩
theorem test_SLA_B_C_1 : Runs (placed [0xCB, 0x20] [] { State.reset with b := 0x85, f := 0x10 }) 8
    fun s => { s with b := 0x0A, pc := 0x0102 } := ⟨rfl, rfl⟩
theorem test_SLA_mHL : Runs (placed [0xCB, 0x26] [(0xC000, 0xF0)] { State.reset with h := 0xC0, l := 0x00, f := 0x10 }) 16
    fun s => { s with pc := 0x0102, mem := s.mem.write 0xC000 0xE0 } := ⟨rfl, rfl⟩
theorem test_SRA_B_C_1 : Runs (placed [0xCB, 0x28] [] { State.reset with b := 0x85, f := 0x10 }) 8
    fun s => { s with b := 0xC2, pc := 0x0102 } := ⟨rfl, rfl⟩
theorem test_SRA_mHL : Runs (placed [0xCB, 0x2E] [(0xC000, 0xF0)] { State.reset with h := 0xC0, l := 0x00, f := 0x10 }) 16
    fun s => { s with f := 0x00, pc := 0x0102, mem := s.mem.write 0xC000 0xF8 } := ⟨rfl, rfl⟩
theorem test_SWAP_mHL : Runs (placed [0xCB, 0x36] [(0xC000, 0xF0)] { State.reset with h := 0xC0, l := 0x00, f := 0x10 }) 16
    fun s => { s with f := 0x00, pc := 0x0102, mem := s.mem.write 0xC000 0x0F } := ⟨rfl, rfl⟩
theorem test_SRL_B_C_1 : Runs (placed [0xCB, 0x38] [] { State.reset with b := 0x85, f := 0x10 }) 8
    fun s => { s with b := 0x42, pc := 0x0102 } := ⟨rfl, rfl⟩
theorem test_SRL_mHL : Runs (placed [0xCB, 0x3E] [(0xC000, 0xF0)] { State.reset with h := 0xC0, l := 0x00, f := 0x10 }) 16
    fun s => { s with f := 0x00, pc := 0x0102, mem := s.mem.write 0xC000 0x78 } := ⟨rfl, rfl⟩
theorem test_RLC_A_A_00 : Runs (placed [0xCB, 0x07] [] { State.reset with a := 0x00 }) 8
    fun s => { s with f := 0x80, pc := 0x0102 } := ⟨rfl, rfl⟩
theorem test_BIT_7_H : Runs (placed [0xCB, 0x7C] [] { State.reset with h := 0x80, f := 0x10 }) 8
    fun s => { s with f := 0x30, pc := 0x0102 } := ⟨rfl, rfl⟩
theorem test_BIT_0_A : Runs (placed [0xCB, 0x47] [] { State.reset with a := 0x00 }) 8
    fun s => { s with f := 0xA0, pc := 0x0102 } := ⟨rfl, rfl⟩
theorem test_RES_7_A : Runs (placed [0xCB, 0xBF] [] { State.reset with a := 0xFF, f := 0x50 }) 8
    fun s => { s with a := 0x7F, pc := 0x0102 } := ⟨rfl, rfl⟩
theorem test_RES_0_mHL : Runs (placed [0xCB, 0x86] [(0xC000, 0x0F)] { State.reset with h := 0xC0, l := 0x00 }) 16
    fun s => { s with pc := 0x0102, mem := s.mem.write 0xC000 0x0E } := ⟨rfl, rfl⟩
theorem test_SET_3_B : Runs (placed [0xCB, 0xD8] [] { State.reset with b := 0x00, f := 0xA0 }) 8
    fun s => { s with b := 0x08, pc := 0x0102 } := ⟨rfl, rfl⟩
theorem test_SET_7_mHL : Runs (placed [0xCB, 0xFE] [] { State.reset with h := 0xC0, l := 0x00 }) 16
    fun s => { s with pc := 0x0102, mem := s.mem.write 0xC000 0x80 } := ⟨rfl, rfl⟩
theorem test_SWAP_H_H_is_also_HLs_high_byte : Runs (placed [0xCB, 0x34] [] { State.reset with h := 0x12, l := 0xC0 }) 8
    fun s => { s with h := 0x21, pc := 0x0102 } := ⟨rfl, rfl⟩

/-! Faults and the store policy (95_test_vectors.md 2.9). -/

theorem test_illegal_0xED : Faults (placed [0xED, 0x00] [] State.reset) (.unimplementedOpcode 0xED 0x0100)
    fun s => { s with pc := 0x0101 } := ⟨rfl, rfl⟩
theorem test_PUSH_BC_FFFD_not_writable :
    Faults (placed [0xC5] [] { State.reset with b := 0x12, c := 0x34, cfg := allBut 0xFFFD .fault }) (.storageWrite 0xFFFD 0x12)
    fun s => { s with sp := 0xFFFD, pc := 0x0101 } := ⟨rfl, rfl⟩
theorem test_PUSH_BC_FFFC_not_writable :
    Faults (placed [0xC5] [] { State.reset with b := 0x12, c := 0x34, cfg := allBut 0xFFFC .fault }) (.storageWrite 0xFFFC 0x34)
    fun s => { s with sp := 0xFFFC, pc := 0x0101, mem := s.mem.write 0xFFFD 0x12 } := ⟨rfl, rfl⟩
theorem test_CALL_nn_FFFD_not_writable :
    Faults (placed [0xCD, 0x34, 0x12] [] { State.reset with cfg := allBut 0xFFFD .fault }) (.storageWrite 0xFFFD 0x01)
    fun s => { s with sp := 0xFFFD, pc := 0x0103 } := ⟨rfl, rfl⟩
theorem test_INC_mHL_C000_not_writable :
    Faults (placed [0x34] [(0xC000, 0xFF)] { State.reset with h := 0xC0, l := 0x00, cfg := allBut 0xC000 .fault })
      (.storageWrite 0xC000 0x00)
    fun s => { s with pc := 0x0101 } := ⟨rfl, rfl⟩
theorem test_LD_HLi_A_C000_not_writable :
    Faults (placed [0x22] [] { State.reset with a := 0x11, h := 0xC0, l := 0x00, cfg := allBut 0xC000 .fault })
      (.storageWrite 0xC000 0x11)
    fun s => { s with pc := 0x0101 } := ⟨rfl, rfl⟩
theorem test_LD_HLi_A_C000_not_writable_ignored :
    Runs (placed [0x22] [] { State.reset with a := 0x11, h := 0xC0, l := 0x00, cfg := allBut 0xC000 .ignore }) 8
    fun s => { s with l := 0x01, pc := 0x0101 } := ⟨rfl, rfl⟩
theorem test_LD_nn_SP_C101_not_writable :
    Faults (placed [0x08, 0x00, 0xC1] [] { State.reset with sp := 0xFFF8, cfg := allBut 0xC101 .fault })
      (.storageWrite 0xC101 0xFF)
    fun s => { s with pc := 0x0103, mem := s.mem.write 0xC100 0xF8 } := ⟨rfl, rfl⟩
theorem test_SET_0_mHL_C000_not_writable :
    Faults (placed [0xCB, 0xC6] [] { State.reset with h := 0xC0, l := 0x00, cfg := allBut 0xC000 .fault })
      (.storageWrite 0xC000 0x01)
    fun s => { s with pc := 0x0102 } := ⟨rfl, rfl⟩
theorem test_BIT_0_mHL_C000_not_writable :
    Runs (placed [0xCB, 0x46] [] { State.reset with h := 0xC0, l := 0x00, cfg := allBut 0xC000 .fault }) 12
    fun s => { s with f := 0xA0, pc := 0x0102 } := ⟨rfl, rfl⟩

/-! ## The step around the instruction -/

/-- R109: the EI delay resolves at the end of the next completed step, DI in that slot cancels it, a fault leaves it. -/
theorem test_ei_delay_resolves : Runs (placed [0x00] [] { State.reset with eiPending := true }) 4
    fun s => { s with pc := 0x0101, ime := true, eiPending := false } := ⟨rfl, rfl⟩
theorem test_ei_delay_cancelled_by_DI : Runs (placed [0xF3] [] { State.reset with eiPending := true }) 4
    fun s => { s with pc := 0x0101, eiPending := false } := ⟨rfl, rfl⟩
theorem test_ei_delay_kept_by_a_fault :
    Faults (placed [0xDD] [] { State.reset with eiPending := true }) (.unimplementedOpcode 0xDD 0x0100)
    fun s => { s with pc := 0x0101 } := ⟨rfl, rfl⟩
/-- R107: Halted changes nothing and returns Halted; R110: Faulted has no next state. -/
theorem test_halted_stays : step { State.reset with run := .halted } = .next { State.reset with run := .halted } ∧
    stepReturn { State.reset with run := .halted } = some .halted ∧
    isHalted { State.reset with run := .halted } = true := ⟨rfl, rfl, rfl⟩
theorem test_faulted_has_no_step : step { State.reset with run := .faulted (.storageWrite 0x8000 0x42) } =
    .fault (.storageWrite 0x8000 0x42) := rfl
/-- R28: the fetches go on at 0x0000 after 0xFFFF. -/
theorem test_fetch_wraps : Runs (placed [0x01, 0x34, 0x12] [] State.reset 0xFFFF) 12
    fun s => { s with b := 0x12, c := 0x34, pc := 0x0002 } := ⟨rfl, rfl⟩
/-- R111, R303: construction, and its failure. -/
theorem test_construct : construct Config.default (some [(0, 0x76)]) = .next (State.powerOn Config.default [(0, 0x76)]) ∧
    construct Config.default none = .fault .storageLoad := ⟨rfl, rfl⟩
/-- The accessors of R112. -/
theorem test_readFlags : readFlags { State.reset with f := 0xB0 } = (true, false, true, true) := by decide

/-! ## Witnesses: states that meet the hypotheses of the statements -/

/-- HL and `sp` at 0xC000, memory with something in it, one address read only. -/
def site (addr : Word) (policy : RoWritePolicy) : State :=
  { State.reset with h := 0xC0, l := 0x00, sp := 0xC002, mem := [(0xC000, 0x7F), (0xC001, 0x01)], cfg := allBut addr policy }

/-- Stores at HL (StoreAtHL, StoreAccumulatorSteppingHL, IncAndDecMemory, CbShiftsOfMemory, CbResetAndSetMemory). -/
theorem witness_store_at_HL :
    ((site 0 .fault).mem.wf = true ∧ (site 0 .fault).h ++ (site 0 .fault).l = (0xC000 : Word) ∧
      writable (site 0 .fault).cfg 0xC000 = true ∧ accepted (site 0 .fault) 0xC000) ∧
    ((site 0xC000 .ignore).mem.wf = true ∧ writable (site 0xC000 .ignore).cfg 0xC000 = false ∧
      accepted (site 0xC000 .ignore) 0xC000) ∧
    ((site 0xC000 .fault).mem.wf = true ∧ refused (site 0xC000 .fault) 0xC000) := by decide
/-- IncAndDecMemory: the byte read, and its two boundary values for the half-carry. -/
theorem witness_IncAndDecMemory : (site 0 .fault).mem.wf = true ∧
    (0x7F : Byte) = (site 0 .fault).mem.read ((site 0 .fault).h ++ (site 0 .fault).l) ∧
    (0x00 : Byte) = (Memory.read [] 0xC000) := by decide
/-- CbShiftsOfMemory: the result and the bit shifted out, of RL with the carry set. -/
theorem witness_CbShiftsOfMemory :
    ((0xFF : Byte), false) = shiftSpec .rl ({ site 0 .fault with f := 0x10 }.mem.read 0xC000)
      (fbit { site 0 .fault with f := 0x10 } 4) := by decide
/-- StoreAccumulatorSteppingHL: the two stepped addresses. -/
theorem witness_StoreAccumulatorSteppingHL :
    (0xC001 : Word) = ((site 0 .fault).h ++ (site 0 .fault).l : Word) + 1 ∧
    (0xBFFF : Word) = ((site 0 .fault).h ++ (site 0 .fault).l : Word) - 1 := by decide
/-- StoreAccumulator: each form's address, accepted and refused. -/
theorem witness_StoreAccumulator : (site 0x0900 .fault).mem.wf = true ∧
    refused (site 0x0900 .fault) ((site 0x0900 .fault).b ++ (site 0x0900 .fault).c) ∧
    accepted (site 0x0900 .fault) ((site 0x0900 .fault).d ++ (site 0x0900 .fault).e) ∧
    accepted (site 0x0900 .ignore) 0x0900 ∧ refused (site 0xFFFF .fault) (0xFF#8 ++ 0xFF#8) ∧
    refused (site 0xFF00 .fault) (0xFF#8 ++ (site 0xFF00 .fault).c) := by decide
/-- StoreStackPointer at 0xFFFF: both stores accepted, the first refused, the second refused. -/
theorem witness_StoreStackPointer :
    ((site 0x1234 .fault).mem.wf = true ∧ accepted (site 0x1234 .fault) 0xFFFF ∧ accepted (site 0x1234 .fault) (0xFFFF + 1)) ∧
    refused (site 0xFFFF .fault) 0xFFFF ∧
    (accepted (site 0x0000 .fault) 0xFFFF ∧ refused (site 0x0000 .fault) (0xFFFF + 1)) := by decide
/-- The pushes of PushStoresThePair and CallsAndRestarts: both stores accepted, the high byte refused, the low byte refused. -/
theorem witness_pushes :
    ((site 0x1234 .fault).mem.wf = true ∧ accepted (site 0x1234 .fault) ((site 0x1234 .fault).sp - 1) ∧
      accepted (site 0x1234 .fault) ((site 0x1234 .fault).sp - 2)) ∧
    ((site 0xC001 .fault).mem.wf = true ∧ refused (site 0xC001 .fault) ((site 0xC001 .fault).sp - 1)) ∧
    ((site 0xC000 .fault).mem.wf = true ∧ accepted (site 0xC000 .fault) ((site 0xC000 .fault).sp - 1) ∧
      refused (site 0xC000 .fault) ((site 0xC000 .fault).sp - 2)) ∧
    ((site 0xC000 .ignore).mem.wf = true ∧ accepted (site 0xC000 .ignore) ((site 0xC000 .ignore).sp - 2)) := by decide
/-- CallsAndRestarts, AbsoluteJumps, RelativeJumps, Returns: each condition taken and not taken. -/
theorem witness_conditions :
    (taken .nz State.reset = true ∧ taken .z State.reset = false ∧ taken .nc State.reset = true ∧
      taken .c State.reset = false) ∧
    (taken .nz { State.reset with f := 0x80 } = false ∧ taken .z { State.reset with f := 0x80 } = true ∧
      taken .nc { State.reset with f := 0x10 } = false ∧ taken .c { State.reset with f := 0x10 } = true) := by decide
/-- PopLoadsThePair and Returns: the bytes at `sp`, and across the top of memory. -/
theorem witness_pops :
    ((0x7F : Byte) = { site 0 .fault with sp := 0xC000 }.mem.read 0xC000 ∧
      (0x01 : Byte) = { site 0 .fault with sp := 0xC000 }.mem.read (0xC000 + 1)) ∧
    (0x017F : Word) = { site 0 .fault with sp := 0xC000 }.mem.read (0xC000 + 1) ++
      { site 0 .fault with sp := 0xC000 }.mem.read 0xC000 ∧
    (0x5678 : Word) = Memory.read [(0, 0x56), (0xFFFF, 0x78)] (0xFFFF + 1) ++
      Memory.read [(0, 0x56), (0xFFFF, 0x78)] 0xFFFF := by decide
/-- CallThenReturnComesBack and PushThenPopGivesThePairBack. -/
theorem witness_stack_round_trips : (site 0x1234 .fault).mem.wf = true ∧ (site 0x1234 .fault).f &&& 0x0F = 0 ∧
    writable (site 0x1234 .fault).cfg ((site 0x1234 .fault).sp - 1) = true ∧
    writable (site 0x1234 .fault).cfg ((site 0x1234 .fault).sp - 2) = true := by decide
/-- StackPointerPlusOffset: -1 from 1, whose low-byte addition carries out of bits 3 and 7. -/
theorem witness_StackPointerPlusOffset : (0x0000 : Word) = (0x0001 : Word) + BitVec.ofInt 16 (0xFF : Byte).toInt ∧
    (0x30 : Byte) = flagByte false false (decide ((0x0001 : Word).toNat % 16 + (0xFF : Byte).toNat % 16 > 15))
      (decide ((0x0001 : Word).toNat % 256 + (0xFF : Byte).toNat > 255)) := by decide
/-- AddPairToHL. -/
theorem witness_AddPairToHL : (0xC000 : Word) = (site 0 .fault).h ++ (site 0 .fault).l ∧
    (0x8002 : Word) = 0xC000 + (({ site 0 .fault with sp := 0xC002 }).pair .sp) := by decide
/-- DecimalAdjust: the two corrections of a state. -/
abbrev corrections (s : State) : Bool × Bool :=
  (fbit s 5 || (!fbit s 6 && decide (s.a.toNat % 16 > 9)), fbit s 4 || (!fbit s 6 && decide (s.a.toNat > 0x99)))
/-- DecimalAdjust: both corrections after an addition, neither at the boundary, none after a subtraction without borrows. -/
theorem witness_DecimalAdjust : corrections { State.reset with a := 0x9A } = (true, true) ∧
    corrections { State.reset with a := 0x99 } = (false, false) ∧
    corrections { State.reset with a := 0x9A, f := 0x40 } = (false, false) ∧
    corrections { State.reset with a := 0x00, f := 0x70 } = (true, true) := by decide
/-- ReadAfterWrite: canonical memory, another address at each end of the space. -/
theorem witness_ReadAfterWrite : (site 0 .fault).mem.wf = true ∧ (0x0000 : Word) ≠ 0xFFFF := by decide
/-- CbResetAndSetRegister, CbResetAndSetMemory: a bit number that is the index and one that is not. -/
theorem witness_bit_numbers : (0 < 8 ∧ 0 = Index3.i0.val) ∧ (7 < 8 ∧ 7 ≠ Index3.i0.val) := by decide

/-- StepKeepsTheInvariant, LowNibbleOfFStaysZero, ConfigurationNeverChanges, InterruptBitsAreUnobservable: a step of a state
with the invariant, running and halted. -/
theorem witness_step_of_an_invariant_state : (site 0 .fault).Inv ∧ (∃ t, step (site 0 .fault) = .next t) ∧
    { site 0 .fault with run := .halted }.Inv ∧
    step { site 0 .fault with run := .halted } = .next { site 0 .fault with run := .halted } :=
  ⟨by decide, ⟨_, rfl⟩, by decide, rfl⟩
/-- InterruptBitsAreUnobservable: two different such states; and a Faulted one. -/
theorem witness_InterruptBits : SameButInterrupts State.reset { State.reset with ime := true, eiPending := true } ∧
    step { State.reset with run := .faulted .storageLoad } = .fault .storageLoad := ⟨rfl, rfl⟩
/-- StepRunsTheDecodedInstruction: LD BC,nn across the top of memory. -/
theorem witness_StepRuns : (placed [0x01, 0x34, 0x12] [] State.reset 0xFFFF).run = .running ∧
    decode [(placed [0x01, 0x34, 0x12] [] State.reset 0xFFFF).mem.read 0xFFFF,
      (placed [0x01, 0x34, 0x12] [] State.reset 0xFFFF).mem.read (0xFFFF + 1),
      (placed [0x01, 0x34, 0x12] [] State.reset 0xFFFF).mem.read (0xFFFF + 2)] = .ok (.ld_BC_nn 0x1234, []) := ⟨rfl, rfl⟩
/-- EiDelayResolvesAfterCompletion: each of its clauses. -/
theorem witness_EiDelay :
    { State.reset with eiPending := true }.Safe ∧ { State.reset with eiPending := true }.eiPending = true ∧
    State.reset.Safe ∧ State.reset.eiPending = false ∧
    { State.reset with run := .faulted .storageLoad }.run = .faulted .storageLoad :=
  ⟨(fun _ h => by cases h), rfl, (fun _ h => by cases h), rfl, rfl⟩
/-- TerminalRunStates: both terminal states. -/
theorem witness_TerminalRunStates : { State.reset with run := .halted }.run = .halted ∧
    { State.reset with run := .faulted (.storageWrite 0 0) }.run = .faulted (.storageWrite 0 0) := by decide
/-- UnassignedOpcodeFaults: the first and the last of the bytes, at 0x0100. -/
theorem witness_UnassignedOpcode : (placed [0xD3] [] State.reset).run = .running ∧
    (placed [0xD3] [] State.reset).mem.read 0x0100 ∈ unassignedOpcodes ∧
    (placed [0xFD] [] State.reset).mem.read 0x0100 ∈ unassignedOpcodes ∧
    step (placed [0xFD] [] State.reset) = .next { placed [0xFD] [] State.reset with
      pc := 0x0101, run := .faulted (.unimplementedOpcode 0xFD 0x0100) } := ⟨rfl, by decide, by decide, rfl⟩
/-- OnlyHaltAndStopHalt: a running state whose step ends Halted, by each of the two. -/
theorem witness_OnlyHaltAndStopHalt :
    ∃ t u, step (placed [0x76] [] State.reset) = .next t ∧ t.run = .halted ∧
      (fetchInstr (placed [0x76] [] State.reset)).1 = .halt ∧
      step (placed [0x10, 0xA5] [] State.reset) = .next u ∧ u.run = .halted ∧
      (fetchInstr (placed [0x10, 0xA5] [] State.reset)).1 = .stop 0xA5 := ⟨_, _, rfl, rfl, rfl, rfl, rfl, rfl⟩
/-- StepReturnsCostOrFault: a step that completes and one that faults. -/
theorem witness_StepReturns : (∃ t, step State.reset = .next t ∧ t.Safe) ∧
    ∃ t, step (placed [0xED] [] State.reset) = .next t ∧ t.run = .faulted (.unimplementedOpcode 0xED 0x0100) :=
  ⟨⟨_, rfl, fun _ h => by cases h⟩, ⟨_, rfl, rfl⟩⟩
/-- ReadOnlyBytesNeverChange: a dropped store to a read-only byte. -/
theorem witness_ReadOnlyBytes :
    writable (placed [0x36, 0x55] [] { State.reset with h := 0xC0, l := 0x00, cfg := allBut 0xC000 .ignore }).cfg 0xC000 = false ∧
    ∃ t, step (placed [0x36, 0x55] [] { State.reset with h := 0xC0, l := 0x00, cfg := allBut 0xC000 .ignore }) = .next t :=
  ⟨by decide, _, rfl⟩
/-- OnlyStoringInstructionsTouchMemory: a BIT in a state that already holds the record. -/
theorem witness_OnlyStoring : mayStore .bit_7_mHL = false ∧
    ∃ t, exec .bit_7_mHL { State.reset with run := .faulted (.storageWrite 1 2) } = .next t ∧
      t.run = .faulted (.storageWrite 1 2) :=
  ⟨rfl, _, rfl, rfl⟩
/-- CarryInParameterReachesOnlyRlaRra: RL, which is no RLA. -/
theorem witness_CarryIn : Instr.rl_A ≠ .rla ∧ Instr.rl_A ≠ .rra ∧ ∃ t, exec .rl_A State.reset = .next t :=
  ⟨by decide, by decide, _, rfl⟩
/-- DecodeOfEncode and EncodeOfDecode. -/
theorem witness_coding : (Instr.ld_mnn_SP 0xC100).WellFormed = true ∧
    decode [0x08, 0x00, 0xC1, 0x76] = .ok (.ld_mnn_SP 0xC100, [0x76]) := ⟨rfl, rfl⟩

end Sys2Proof.Tests
end

section
/-! Reading back what was written: a byte of memory, a pair from its halves and a word from the stack; from these, PUSH
then POP and CALL then RET. -/

namespace Sys2Proof.Machine

/-! ## Memory -/

/-- A key below the bound of a canonical memory is not listed. -/
theorem Memory.lookup_of_wfFrom {m : Memory} :
    ∀ {lo n : Nat}, m.wfFrom lo = true → n < lo → m.lookup n = unlistedByte := by
  induction m with
  | nil => intros; rfl
  | cons cell rest ih =>
    obtain ⟨k, w⟩ := cell
    intro lo n h hn
    simp only [Memory.wfFrom, Bool.and_eq_true, decide_eq_true_eq] at h
    obtain ⟨⟨⟨hk, -⟩, -⟩, hrest⟩ := h
    rw [Memory.lookup, if_neg (by omega)]
    exact ih hrest (by omega)

/-- In a canonical memory an inserted byte is found at its key; the canonical form is what makes dropping an entry for
`unlistedByte` right. -/
theorem Memory.lookup_insert_same {m : Memory} {n : Nat} {v : Byte} :
    ∀ {lo : Nat}, m.wfFrom lo = true → (m.insert n v).lookup n = v := by
  induction m with
  | nil =>
    intro _ _
    by_cases hv : v = unlistedByte <;> simp [Memory.insert, Memory.lookup, hv]
  | cons cell rest ih =>
    obtain ⟨k, w⟩ := cell
    intro lo h
    simp only [Memory.wfFrom, Bool.and_eq_true] at h
    obtain ⟨-, hrest⟩ := h
    rcases lt_trichotomy n k with hlt | rfl | hgt
    · by_cases hv : v = unlistedByte
      · simp [Memory.insert, Memory.lookup, hlt, hlt.ne', hv, Memory.lookup_of_wfFrom hrest (Nat.lt_succ_of_lt hlt)]
      · simp [Memory.insert, Memory.lookup, hlt, hv]
    · by_cases hv : v = unlistedByte
      · simp [Memory.insert, hv, Memory.lookup_of_wfFrom hrest (Nat.lt_succ_self n)]
      · simp [Memory.insert, Memory.lookup, hv]
    · simp [Memory.insert, Memory.lookup, hgt.ne, hgt.ne', hgt.not_gt, ih hrest]

/-- An insertion changes what no other key gives, in any list. -/
theorem Memory.lookup_insert_of_ne {n n' : Nat} (hne : n' ≠ n) (m : Memory) (v : Byte) :
    (m.insert n v).lookup n' = m.lookup n' := by
  induction m with
  | nil => by_cases hv : v = unlistedByte <;> simp [Memory.insert, Memory.lookup, hv, hne.symm]
  | cons cell rest ih =>
    obtain ⟨k, w⟩ := cell
    rcases lt_trichotomy n k with hlt | rfl | hgt
    · by_cases hv : v = unlistedByte <;> simp [Memory.insert, Memory.lookup, hlt, hv, hne.symm]
    · by_cases hv : v = unlistedByte <;> simp [Memory.insert, Memory.lookup, hv, hne.symm]
    · simp [Memory.insert, Memory.lookup, hgt.ne', hgt.not_gt, ih]

/-- A written byte reads back at its address (20_memory.md R51, R52). -/
theorem Memory.read_write_same {m : Memory} (h : m.wf = true) (addr : Word) (v : Byte) :
    (m.write addr v).read addr = v :=
  Memory.lookup_insert_same h

/-- A write changes what no other address reads as. -/
theorem Memory.read_write_of_ne {addr addr' : Word} (hne : addr' ≠ addr) (m : Memory) (v : Byte) :
    (m.write addr v).read addr' = m.read addr' :=
  Memory.lookup_insert_of_ne (fun h => hne (BitVec.eq_of_toNat_eq h)) m v

/-! ## Pairs and their halves -/

@[simp] theorem hiByte_join (hi lo : Byte) : hiByte (join hi lo) = hi :=
  BitVec.extractLsb'_append_eq_left

@[simp] theorem loByte_join (hi lo : Byte) : loByte (join hi lo) = lo :=
  BitVec.extractLsb'_append_eq_right

@[simp] theorem join_hiByte_loByte (v : Word) : join (hiByte v) (loByte v) = v :=
  (BitVec.extractLsb'_append_extractLsb'_eq_extractLsb' rfl).trans BitVec.extractLsb'_eq_self

/-- The mask that writing AF puts on F keeps an F of the form of 10_state.md R27. -/
theorem and_0xF0_of_lowNibble_zero {f : Byte} (h : f &&& 0x0F = 0) : f &&& 0xF0 = f :=
  calc f &&& 0xF0 = (f &&& 0x0F) ||| (f &&& 0xF0) := by rw [h]; exact BitVec.zero_or.symm
    _ = f &&& 0xFF := (BitVec.and_or_distrib_left).symm
    _ = f := BitVec.and_allOnes

/-- Writing back the pair a state holds changes nothing; for AF this needs the form of F, whose low nibble the write
masks. -/
theorem State.setStackPair_stackPair {s : State} (h : s.f &&& 0x0F = 0) (p : PairAF) :
    s.setStackPair p (s.stackPair p) = s := by
  have hF : s.f &&& 0xF0 = s.f := and_0xF0_of_lowNibble_zero h
  cases p
  case af => simp only [State.setStackPair, State.setAF, State.stackPair, State.af, hiByte_join, loByte_join, hF]
  case bc => simp only [State.setStackPair, State.setBC, State.stackPair, State.bc, hiByte_join, loByte_join]
  case de => simp only [State.setStackPair, State.setDE, State.stackPair, State.de, hiByte_join, loByte_join]
  case hl => simp only [State.setStackPair, State.setHL, State.stackPair, State.hl, hiByte_join, loByte_join]

@[simp] theorem State.stackPair_setMem (s : State) (m : Memory) (p : PairAF) :
    (s.setMem m).stackPair p = s.stackPair p := by
  cases p <;> rfl

/-! ## The stack -/

/-- The state an accepted `push16(v)` leaves (00_scope.md R13): `sp` lowered by 2, the high byte at `sp - 1` and the low
byte at `sp - 2`. -/
def State.pushed (s : State) (v : Word) : State :=
  (s.setSP (s.sp - 2)).setMem ((s.mem.write (s.sp - 1) (hiByte v)).write (s.sp - 2) (loByte v))

theorem push16_of_writable {s : State} (hi : writable s.cfg (s.sp - 1) = true) (lo : writable s.cfg (s.sp - 2) = true)
    (v : Word) (rest : State → Result) : push16 v s rest = rest (s.pushed v) := by
  have hsp : s.sp - 1 - 1 = s.sp - 2 := by bv_omega
  rw [push16, store_of_writable (by simpa using hi)]
  simp only [State.setMem_sp, State.setSP_sp, hsp]
  rw [store_of_writable (by simpa using lo)]
  rfl

/-- A pop after an accepted push gives the pushed word. -/
theorem popValue_pushed {s : State} (hwf : s.mem.wf = true) (v : Word) : popValue (s.pushed v) = v := by
  have hsp : s.sp - 2 + 1 = s.sp - 1 := by bv_omega
  have hne : s.sp - 1 ≠ s.sp - 2 := by bv_omega
  simp only [popValue, State.pushed, State.setMem_mem, State.setMem_sp, State.setSP_sp, hsp]
  rw [Memory.read_write_of_ne hne, Memory.read_write_same hwf, Memory.read_write_same (Memory.wf_write hwf _ _),
    join_hiByte_loByte]

/-- A pop after an accepted push leaves the state before both, but for memory. -/
theorem popState_pushed (s : State) (v : Word) : popState (s.pushed v) = s.setMem (s.pushed v).mem := by
  have hsp : s.sp - 2 + 2 = s.sp := by bv_omega
  simp only [popState, State.pushed, State.setMem_sp, State.setSP_sp, hsp]
  rfl

/-- Settles O51: the pop reads the pushed pair back, and writing a pair its own value changes nothing. -/
theorem pushThenPopGivesThePairBack : Obligations.PushThenPopGivesThePairBack := by
  unfold Obligations.PushThenPopGivesThePairBack
  intro s p hwf hf hhi hlo
  have hpush : exec (.push p) s = .next (s.pushed (s.stackPair p)) := by
    rw [exec_push, push16_of_writable hhi hlo]
  have hpop (m : Memory) : (s.setMem m).setStackPair p (s.stackPair p) = s.setMem m := by
    rw [← State.stackPair_setMem s m, State.setStackPair_stackPair (s := s.setMem m) hf]
  refine ⟨s.pushed (s.stackPair p), hpush, ?_⟩
  rw [exec_pop, popPair, popState_pushed, popValue_pushed hwf, hpop]
  rfl

/-- Settles O50: the return pops the `pc` that the call pushed. -/
theorem callThenReturnComesBack : Obligations.CallThenReturnComesBack := by
  unfold Obligations.CallThenReturnComesBack
  intro s nn hwf hhi hlo
  have hcall : exec (.call_nn nn) s = .next ((s.pushed s.pc).setPC nn) := push16_of_writable hhi hlo s.pc (jumpTo nn)
  have hback : popValue ((s.pushed s.pc).setPC nn) = s.pc := popValue_pushed hwf s.pc
  have hsp : (popState (s.pushed s.pc)).sp = s.sp := by rw [popState_pushed, State.setMem_sp]
  exact ⟨_, _, hcall, rfl, returnIf_eq true _, hback, hsp⟩

end Sys2Proof.Machine
end

section
/-! Noninterference of `RL_CARRY_IN` (00_scope.md R10): every instruction but RLA and RRA commutes with a change of the
parameter. Each shared operation commutes, and an instruction is one of them by the equations of `exec` by shape. -/

namespace Sys2Proof.Machine

/-- The same state on a machine whose `RL_CARRY_IN` is `b`. -/
def State.setCarryIn (s : State) (b : Bool) : State := { s with cfg := { s.cfg with rlCarryIn := b } }

/-- The same answer on a machine whose `RL_CARRY_IN` is `b`. -/
def resultSetCarryIn (b : Bool) : Result → Result
  | .next t => .next (t.setCarryIn b)
  | .fault r => .fault r
  | .refused r => .refused r

/-- The meaning `op` does not read `RL_CARRY_IN`: changing the parameter first or afterwards is the same. -/
def IgnoresCarryIn (op : State → Result) : Prop :=
  ∀ s b, op (s.setCarryIn b) = resultSetCarryIn b (op s)

/-! ## What the operands read -/

section Operations

variable (s : State) (b : Bool)

@[simp] theorem State.setCarryIn_f : (s.setCarryIn b).f = s.f := rfl
@[simp] theorem State.setCarryIn_pc : (s.setCarryIn b).pc = s.pc := rfl
@[simp] theorem State.setCarryIn_mem : (s.setCarryIn b).mem = s.mem := rfl
@[simp] theorem State.hl_setCarryIn : (s.setCarryIn b).hl = s.hl := rfl

@[simp] theorem State.reg_setCarryIn (r : Reg8) : (s.setCarryIn b).reg r = s.reg r := by cases r <;> rfl

@[simp] theorem State.operand_setCarryIn (o : Operand) : (s.setCarryIn b).operand o = s.operand o := by
  cases o with
  | reg r => exact State.reg_setCarryIn s b r
  | atHL => rfl

@[simp] theorem State.pair_setCarryIn (p : PairSP) : (s.setCarryIn b).pair p = s.pair p := by cases p <;> rfl

@[simp] theorem State.stackPair_setCarryIn (p : PairAF) : (s.setCarryIn b).stackPair p = s.stackPair p := by
  cases p <;> rfl

/-! ## Stores and pushes -/

variable {s b}

/-- A store commutes with the change of the parameter where the rest of the instruction does: `writable` and the policy are
other parameters. -/
theorem store_setCarryIn {rest rest' : State → Result} (addr : Word) (v : Byte)
    (hrest : ∀ t, rest' (t.setCarryIn b) = resultSetCarryIn b (rest t)) :
    store addr v (s.setCarryIn b) rest' = resultSetCarryIn b (store addr v s rest) := by
  refine store_elim (P := fun r => store addr v (s.setCarryIn b) rest' = resultSetCarryIn b r)
    (fun hw => ?_) (fun hw hp => ?_) (fun hw hp => ?_)
  · exact (store_of_writable (s := s.setCarryIn b) hw).trans (hrest (s.setMem (s.mem.write addr v)))
  · exact (store_of_ignore (s := s.setCarryIn b) hw hp).trans (hrest s)
  · exact store_of_fault (s := s.setCarryIn b) hw hp

theorem push16_setCarryIn {rest rest' : State → Result} (v : Word)
    (hrest : ∀ t, rest' (t.setCarryIn b) = resultSetCarryIn b (rest t)) :
    push16 v (s.setCarryIn b) rest' = resultSetCarryIn b (push16 v s rest) :=
  store_setCarryIn (s := s.setSP (s.sp - 1)) _ _ fun t => store_setCarryIn (s := t.setSP (t.sp - 1)) _ _ hrest

variable (s b)

@[simp] theorem storeByte_setCarryIn (addr : Word) (v : Byte) :
    storeByte addr v (s.setCarryIn b) = resultSetCarryIn b (storeByte addr v s) :=
  store_setCarryIn addr v fun _ => rfl

@[simp] theorem storeAccStep_setCarryIn (hl' : Word) :
    storeAccStep hl' (s.setCarryIn b) = resultSetCarryIn b (storeAccStep hl' s) :=
  store_setCarryIn s.hl s.a fun _ => rfl

@[simp] theorem incMem_setCarryIn : incMem (s.setCarryIn b) = resultSetCarryIn b (incMem s) :=
  store_setCarryIn s.hl _ fun _ => rfl

@[simp] theorem decMem_setCarryIn : decMem (s.setCarryIn b) = resultSetCarryIn b (decMem s) :=
  store_setCarryIn s.hl _ fun _ => rfl

@[simp] theorem shiftMem_setCarryIn (op : ShiftOp) :
    shiftMem op (s.setCarryIn b) = resultSetCarryIn b (shiftMem op s) :=
  store_setCarryIn s.hl _ fun _ => rfl

@[simp] theorem resMem_setCarryIn (i : Index3) : resMem i (s.setCarryIn b) = resultSetCarryIn b (resMem i s) :=
  store_setCarryIn s.hl _ fun _ => rfl

@[simp] theorem setMem_setCarryIn (i : Index3) : setMem i (s.setCarryIn b) = resultSetCarryIn b (setMem i s) :=
  store_setCarryIn s.hl _ fun _ => rfl

@[simp] theorem storeSP_setCarryIn (nn : Word) : storeSP nn (s.setCarryIn b) = resultSetCarryIn b (storeSP nn s) :=
  store_setCarryIn nn _ fun _ => store_setCarryIn (nn + 1) _ fun _ => rfl

@[simp] theorem callTo_setCarryIn (target : Word) :
    callTo target (s.setCarryIn b) = resultSetCarryIn b (callTo target s) :=
  push16_setCarryIn s.pc fun _ => rfl

/-! ## Operations that write registers alone -/

@[simp] theorem loadReg_setCarryIn (r : Reg8) (v : Byte) :
    loadReg r v (s.setCarryIn b) = resultSetCarryIn b (loadReg r v s) := by
  cases r <;> rfl

@[simp] theorem loadBitReg_setCarryIn (v : Byte) (r : Reg8) :
    loadBitReg v r (s.setCarryIn b) = resultSetCarryIn b (loadBitReg v r s) :=
  loadReg_setCarryIn s b r v

@[simp] theorem incReg_setCarryIn (r : Reg8) : incReg r (s.setCarryIn b) = resultSetCarryIn b (incReg r s) := by
  cases r <;> rfl

@[simp] theorem decReg_setCarryIn (r : Reg8) : decReg r (s.setCarryIn b) = resultSetCarryIn b (decReg r s) := by
  cases r <;> rfl

@[simp] theorem shiftReg_setCarryIn (op : ShiftOp) (r : Reg8) :
    shiftReg op r (s.setCarryIn b) = resultSetCarryIn b (shiftReg op r s) := by
  cases r <;> rfl

@[simp] theorem aluAcc_setCarryIn (op : AluOp) (v : Byte) :
    aluAcc op v (s.setCarryIn b) = resultSetCarryIn b (aluAcc op v s) := rfl

@[simp] theorem bitTest_setCarryIn (i : Index3) (v : Byte) :
    bitTest i v (s.setCarryIn b) = resultSetCarryIn b (bitTest i v s) := rfl

@[simp] theorem loadPair_setCarryIn (p : PairSP) (v : Word) :
    loadPair p v (s.setCarryIn b) = resultSetCarryIn b (loadPair p v s) := by
  cases p <;> rfl

@[simp] theorem putPair_setCarryIn (p : PairSP) (v : Word) :
    putPair p v (s.setCarryIn b) = resultSetCarryIn b (putPair p v s) :=
  loadPair_setCarryIn s b p v

@[simp] theorem addHL_setCarryIn (v : Word) : addHL v (s.setCarryIn b) = resultSetCarryIn b (addHL v s) := rfl

@[simp] theorem popPair_setCarryIn (p : PairAF) : popPair p (s.setCarryIn b) = resultSetCarryIn b (popPair p s) := by
  cases p <;> rfl

/-! ## Control transfer: whether it is taken is the flags' matter -/

@[simp] theorem jumpIf_setCarryIn (taken : Bool) (target : Word) :
    jumpIf taken target (s.setCarryIn b) = resultSetCarryIn b (jumpIf taken target s) := by
  cases taken <;> rfl

@[simp] theorem callIf_setCarryIn (taken : Bool) (target : Word) :
    callIf taken target (s.setCarryIn b) = resultSetCarryIn b (callIf taken target s) := by
  cases taken with
  | false => rfl
  | true => exact callTo_setCarryIn s b target

@[simp] theorem returnIf_setCarryIn (taken : Bool) :
    returnIf taken (s.setCarryIn b) = resultSetCarryIn b (returnIf taken s) := by
  cases taken <;> rfl

end Operations

/-! ## Instructions -/

/-- The CB dispatch runs one of the operations above (R270). -/
theorem cbOperation_ignoresCarryIn (sub : Byte) : IgnoresCarryIn (cbOperation sub) := by
  intro s b
  unfold cbOperation
  dsimp only
  split <;> simp

/-- Every instruction but RLA and RRA, the CB rotates RL and RR among them. -/
theorem exec_ignoresCarryIn {i : Instr} (hrla : i ≠ .rla) (hrra : i ≠ .rra) : IgnoresCarryIn (exec i) := by
  intro s b
  cases i using Instr.byShape with
  | rla => exact absurd rfl hrla
  | rra => exact absurd rfl hrra
  | nop | stop | halt | di | ei | no_entry => rfl
  | rlca | rrca | daa | cpl | scf | ccf => rfl
  | ldRegReg => simp [exec_ldRegReg]
  | ldRegImm => simp [exec_ldRegImm]
  | ldRegHL => simp [exec_ldRegHL]
  | ldHLReg => simp [exec_ldHLReg]
  | ld_A_mBC | ld_A_mDE | ld_A_mnn | ldh_A_mn | ld_A_mC | ld_A_mHLi | ld_A_mHLd => rfl
  | ld_mBC_A => exact storeByte_setCarryIn s b s.bc s.a
  | ld_mDE_A => exact storeByte_setCarryIn s b s.de s.a
  | ld_mHL_n n => exact storeByte_setCarryIn s b s.hl n
  | ld_mnn_A nn => exact storeByte_setCarryIn s b nn s.a
  | ldh_mn_A n => exact storeByte_setCarryIn s b (highPage n) s.a
  | ld_mC_A => exact storeByte_setCarryIn s b (highPage s.c) s.a
  | ld_mHLi_A => exact storeAccStep_setCarryIn s b (s.hl + 1)
  | ld_mHLd_A => exact storeAccStep_setCarryIn s b (s.hl - 1)
  | ldPairImm => simp [exec_ldPairImm]
  | ld_SP_HL | ld_HL_SPe | add_SP_e => rfl
  | ld_mnn_SP nn => exact storeSP_setCarryIn s b nn
  | incPair => simp [exec_incPair]
  | decPair => simp [exec_decPair]
  | addHLPair => simp [exec_addHLPair]
  | push p =>
    rw [exec_push, exec_push, State.stackPair_setCarryIn]
    exact push16_setCarryIn _ fun _ => rfl
  | pop => simp [exec_pop]
  | alu => simp [exec_alu]
  | aluImm => simp [exec_aluImm]
  | incOp o =>
    cases o with
    | reg => simp [exec_incReg]
    | atHL => simp [exec_incMem]
  | decOp o =>
    cases o with
    | reg => simp [exec_decReg]
    | atHL => simp [exec_decMem]
  | jp_nn | jp_HL | jr_e | ret | reti => rfl
  | jpIf => simp [exec_jpIf]
  | jrIf => simp [exec_jrIf]
  | retIf => simp [exec_retIf]
  | call_nn nn => exact callTo_setCarryIn s b nn
  | callIf => simp [exec_callIf]
  | rst => simp [exec_rst]
  | prefix_CB sub => exact cbOperation_ignoresCarryIn sub s b
  | shift op o =>
    cases o with
    | reg => simp [exec_shiftReg]
    | atHL => simp [exec_shiftMem]
  | bitOp i o =>
    cases o with
    | reg => simp [exec_bitReg]
    | atHL => simp [exec_bitMem]
  | resOp i o =>
    cases o with
    | reg => simp [exec_resReg]
    | atHL => simp [exec_resMem]
  | setOp i o =>
    cases o with
    | reg => simp [exec_setReg]
    | atHL => simp [exec_setMem]

/-- Settles O17: the instruction commutes with the change of the parameter, so its next state does. -/
theorem carryInParameterReachesOnlyRlaRra : Obligations.CarryInParameterReachesOnlyRlaRra := by
  unfold Obligations.CarryInParameterReachesOnlyRlaRra
  intro i s t b hrla hrra hexec
  have hcomm : exec i (s.setCarryIn b) = resultSetCarryIn b (exec i s) := exec_ignoresCarryIn hrla hrra s b
  rwa [hexec] at hcomm

end Sys2Proof.Machine
end

section
/-! What an instruction can do to the state, said once (10_state.md R35; 40_dispatch.md R103): a series of single writes,
each allowed by the configuration, chosen without reading `ime` or `eiPending`. What every allowed write keeps, every step
keeps; and the interrupt bits reach nothing else. -/

open Sys2Proof.Statements

namespace Sys2Proof.Machine

/-! ## Single writes -/

/-- One write of an instruction: to a register, to memory, to an interrupt bit or to the run state. -/
inductive Write where
  | reg (r : Reg8) (v : Byte)
  | flags (v : Byte)
  | sp (v : Word)
  | pc (v : Word)
  | ime (v : Bool)
  | eiPending (v : Bool)
  /-- A store that lands. -/
  | mem (addr : Word) (v : Byte)
  | halt
  /-- A store that is refused. -/
  | refuse (addr : Word) (v : Byte)
  /-- A byte without an entry, fetched from `addr`. -/
  | noEntry (op : Byte) (addr : Word)

/-- The state after the write. -/
def Write.apply : Write → State → State
  | .reg r v, s => s.setReg r v
  | .flags v, s => s.setF v
  | .sp v, s => s.setSP v
  | .pc v, s => s.setPC v
  | .ime v, s => s.setIme v
  | .eiPending v, s => s.setEiPending v
  | .mem addr v, s => s.setMem (s.mem.write addr v)
  | .halt, s => s.setRun .halted
  | .refuse addr v, s => s.setRun (.faulted (.storageWrite addr v))
  | .noEntry op addr, s => s.setRun (.faulted (.unimplementedOpcode op addr))

/-- What the rules ask of a write: F keeps its low nibble zero (10_state.md R27), a store lands where the bus may write and
is refused where it faults (20_memory.md R53), and a byte without an entry is one of the eleven (30_encoding.md R86). -/
def Write.Allowed (cfg : Config) : Write → Prop
  | .flags v => v &&& 0x0F = 0
  | .mem addr _ => writable cfg addr = true
  | .refuse addr _ => writable cfg addr = false ∧ cfg.roWritePolicy = .fault
  | .noEntry op _ => unassignedOpcodes.contains op = true
  | _ => True

theorem Write.apply_cfg (w : Write) (s : State) : (w.apply s).cfg = s.cfg := by
  cases w with
  | reg r v => exact State.setReg_cfg s r v
  | flags | sp | pc | ime | eiPending | mem | halt | refuse | noEntry => rfl

/-- An allowed write keeps the form of F (R27). -/
theorem Write.apply_lowNibble {w : Write} {s : State} (hw : w.Allowed s.cfg) (hf : s.f &&& 0x0F = 0) :
    (w.apply s).f &&& 0x0F = 0 := by
  cases w with
  | reg r v => simpa [Write.apply] using hf
  | flags v => exact hw
  | sp | pc | ime | eiPending | mem | halt | refuse | noEntry => exact hf

theorem Write.apply_wf {w : Write} {s : State} (hwf : s.mem.wf = true) : (w.apply s).mem.wf = true := by
  cases w with
  | reg r v => simpa [Write.apply] using hwf
  | mem addr v => exact Memory.wf_write hwf addr v
  | flags | sp | pc | ime | eiPending | halt | refuse | noEntry => exact hwf

/-- An allowed write records no fault that did not happen. -/
theorem Write.apply_faultRecordTrue {w : Write} {s : State} (hw : w.Allowed s.cfg) (hr : faultRecordTrue s = true) :
    faultRecordTrue (w.apply s) = true := by
  cases w with
  | reg r v => simpa [faultRecordTrue, Write.apply] using hr
  | refuse addr v =>
    obtain ⟨hro, hfault⟩ := hw
    simp [faultRecordTrue, Write.apply, hro, hfault]
  | noEntry op addr => exact hw
  | halt => rfl
  | flags | sp | pc | ime | eiPending | mem => exact hr

/-- An allowed write keeps the invariant. -/
theorem Write.apply_inv {w : Write} {s : State} (hw : w.Allowed s.cfg) (h : s.Inv) : (w.apply s).Inv := by
  obtain ⟨hwf, hf, hr⟩ := h
  exact ⟨Write.apply_wf hwf, Write.apply_lowNibble hw hf, Write.apply_faultRecordTrue hw hr⟩

/-! ## The interrupt bits -/

/-- The state with other interrupt bits. -/
def State.setInterrupts (s : State) (x y : Bool) : State := { s with ime := x, eiPending := y }

theorem eq_setInterrupts_of_same {s t : State} (h : SameButInterrupts s t) :
    t = s.setInterrupts t.ime t.eiPending := h.symm

/-- A write acts alike whatever the interrupt bits are. -/
theorem Write.apply_setInterrupts (w : Write) (s : State) (x y : Bool) :
    ∃ x' y', w.apply (s.setInterrupts x y) = (w.apply s).setInterrupts x' y' := by
  cases w with
  | reg r v => cases r <;> exact ⟨x, y, rfl⟩
  | ime v => exact ⟨v, y, rfl⟩
  | eiPending v => exact ⟨x, v, rfl⟩
  | flags | sp | pc | mem | halt | refuse | noEntry => exact ⟨x, y, rfl⟩

section Reads

variable (s : State) (x y : Bool)

@[simp] theorem State.f_setInterrupts : (s.setInterrupts x y).f = s.f := rfl
@[simp] theorem State.hl_setInterrupts : (s.setInterrupts x y).hl = s.hl := rfl

@[simp] theorem State.reg_setInterrupts (r : Reg8) : (s.setInterrupts x y).reg r = s.reg r := by cases r <;> rfl

@[simp] theorem State.operand_setInterrupts (o : Operand) : (s.setInterrupts x y).operand o = s.operand o := by
  cases o with
  | reg r => exact State.reg_setInterrupts s x y r
  | atHL => rfl

@[simp] theorem State.pair_setInterrupts (p : PairSP) : (s.setInterrupts x y).pair p = s.pair p := by cases p <;> rfl

@[simp] theorem State.stackPair_setInterrupts (p : PairAF) : (s.setInterrupts x y).stackPair p = s.stackPair p := by
  cases p <;> rfl

end Reads

/-! ## Series of writes -/

/-- From `s`, the meaning `op` makes a series of allowed writes and ends in a next state; the writes are the same
whatever the interrupt bits of `s` are. -/
inductive Performs : State → (State → Result) → Prop
  | done {s : State} {op : State → Result} (h : ∀ x y, op (s.setInterrupts x y) = .next (s.setInterrupts x y)) :
      Performs s op
  | write {s : State} {op rest : State → Result} (w : Write) (hw : w.Allowed s.cfg)
      (hrest : Performs (w.apply s) rest)
      (h : ∀ x y, op (s.setInterrupts x y) = rest (w.apply (s.setInterrupts x y))) : Performs s op

/-- What every allowed write keeps, the meaning keeps. -/
theorem Performs.keeps {P : State → Prop}
    (hP : ∀ (w : Write) (s : State), w.Allowed s.cfg → P s → P (w.apply s))
    {s t : State} {op : State → Result} (h : Performs s op) (hs : P s) (ht : op s = .next t) : P t := by
  induction h with
  | @done s op h =>
    obtain rfl : s = t := Host.Outcome.next.inj ((h s.ime s.eiPending).symm.trans ht)
    exact hs
  | @write s op rest w hw _ h ih => exact ih (hP w s hw hs) ((h s.ime s.eiPending).symm.trans ht)

/-- The meaning ends alike whatever the interrupt bits are. -/
theorem Performs.next_setInterrupts {s : State} {op : State → Result} (h : Performs s op) :
    ∃ t : State, ∀ x y, ∃ x' y', op (s.setInterrupts x y) = .next (t.setInterrupts x' y') := by
  induction h with
  | @done s op h => exact ⟨s, fun x y => ⟨x, y, h x y⟩⟩
  | @write s op rest w _ _ h ih =>
    obtain ⟨t, ht⟩ := ih
    refine ⟨t, fun x y => ?_⟩
    obtain ⟨x₁, y₁, happly⟩ := w.apply_setInterrupts s x y
    obtain ⟨x₂, y₂, hnext⟩ := ht x₁ y₁
    exact ⟨x₂, y₂, by rw [h, happly, hnext]⟩

/-- A meaning that computes as another one performs as it does. -/
theorem Performs.congr {s : State} {op op' : State → Result} (h : Performs s op)
    (heq : ∀ x y, op' (s.setInterrupts x y) = op (s.setInterrupts x y)) : Performs s op' := by
  cases h with
  | done h => exact .done fun x y => (heq x y).trans (h x y)
  | write w hw hrest h => exact .write w hw hrest fun x y => (heq x y).trans (h x y)

section Series

variable (s : State)

theorem performs_next : Performs s .next := .done fun _ _ => rfl

variable {s} in
theorem performs_last {w : Write} (hw : w.Allowed s.cfg) : Performs s (fun t => .next (w.apply t)) :=
  .write w hw (performs_next _) fun _ _ => rfl

/-- The bus store, landed, dropped or refused (20_memory.md R53). -/
theorem performs_store (addr : Word) (v : Byte) {rest : State → Result} (hrest : ∀ t, Performs t rest) :
    Performs s (fun t => store addr v t rest) := by
  cases hw : writable s.cfg addr
  case true => exact .write (.mem addr v) hw (hrest _) fun x y => store_of_writable (s := s.setInterrupts x y) hw
  case false =>
    cases hp : s.cfg.roWritePolicy
    case ignore => exact (hrest s).congr fun x y => store_of_ignore (s := s.setInterrupts x y) hw hp
    case fault =>
      exact .write (.refuse addr v) ⟨hw, hp⟩ (performs_next _)
        fun x y => store_of_fault (s := s.setInterrupts x y) hw hp

theorem performs_push16 (v : Word) {rest : State → Result} (hrest : ∀ t, Performs t rest) :
    Performs s (fun t => push16 v t rest) :=
  have low (t : State) : Performs t (fun u => store (u.sp - 1) (loByte v) (u.setSP (u.sp - 1)) rest) :=
    .write (.sp (t.sp - 1)) trivial (performs_store _ (t.sp - 1) _ hrest) fun _ _ => rfl
  .write (.sp (s.sp - 1)) trivial (performs_store _ (s.sp - 1) _ low) fun _ _ => rfl

/-! ## The operations the instructions share -/

/-- The byte of four flags has the form of R27. -/
theorem packF_lowNibble (z n h c : Bool) : packF z n h c &&& 0x0F = 0 := by
  revert z n h c
  decide

theorem evalAlu_lowNibble (op : AluOp) (x y : Byte) (cin : Bool) : (evalAlu op x y cin).2 &&& 0x0F = 0 := by
  cases op <;> exact packF_lowNibble ..

theorem evalShift_lowNibble (op : ShiftOp) (v : Byte) (cin : Bool) : (evalShift op v cin).2 &&& 0x0F = 0 := by
  cases op <;> exact packF_lowNibble ..

theorem add16HL_lowNibble (x y : Word) (z : Bool) : (add16HL x y z).2 &&& 0x0F = 0 := packF_lowNibble ..

theorem addSPe_lowNibble (sp : Word) (e : Byte) : (addSPe sp e).2 &&& 0x0F = 0 := packF_lowNibble ..

theorem aluInc_lowNibble (v : Byte) (cin : Bool) : (aluInc v cin).2 &&& 0x0F = 0 := packF_lowNibble ..

theorem aluDec_lowNibble (v : Byte) (cin : Bool) : (aluDec v cin).2 &&& 0x0F = 0 := packF_lowNibble ..

/-- The mask of a write to AF gives F the form of R27. -/
theorem and_0xF0_lowNibble (v : Byte) : v &&& 0xF0 &&& 0x0F = 0 := by
  rw [BitVec.and_assoc]
  exact BitVec.and_zero

theorem performs_setReg (r : Reg8) (v : Byte) : Performs s (fun t => .next (t.setReg r v)) :=
  performs_last (w := .reg r v) trivial

theorem performs_setF {v : Byte} (hv : v &&& 0x0F = 0) : Performs s (fun t => .next (t.setF v)) :=
  performs_last (w := .flags v) hv

theorem performs_jumpTo (target : Word) : Performs s (jumpTo target) := performs_last (w := .pc target) trivial

/-- A register and then F. -/
theorem performs_setReg_setF (r : Reg8) (v : Byte) {fl : Byte} (hfl : fl &&& 0x0F = 0) :
    Performs s (fun t => .next ((t.setReg r v).setF fl)) :=
  .write (.reg r v) trivial (performs_setF _ hfl) fun _ _ => rfl

theorem performs_setPair (p : PairSP) (v : Word) : Performs s (fun t => .next (t.setPair p v)) := by
  cases p with
  | bc => exact .write (.reg .b (hiByte v)) trivial (performs_setReg _ .c (loByte v)) fun _ _ => rfl
  | de => exact .write (.reg .d (hiByte v)) trivial (performs_setReg _ .e (loByte v)) fun _ _ => rfl
  | hl => exact .write (.reg .h (hiByte v)) trivial (performs_setReg _ .l (loByte v)) fun _ _ => rfl
  | sp => exact performs_last (w := .sp v) trivial

/-- HL and then F. -/
theorem performs_setHL_setF (v : Word) {fl : Byte} (hfl : fl &&& 0x0F = 0) :
    Performs s (fun t => .next ((t.setHL v).setF fl)) :=
  .write (.reg .h (hiByte v)) trivial (performs_setReg_setF _ .l (loByte v) hfl) fun _ _ => rfl

theorem performs_setStackPair (p : PairAF) (v : Word) : Performs s (fun t => .next (t.setStackPair p v)) := by
  cases p with
  | bc => exact performs_setPair s .bc v
  | de => exact performs_setPair s .de v
  | hl => exact performs_setPair s .hl v
  | af => exact .write (.reg .a (hiByte v)) trivial (performs_setF _ (and_0xF0_lowNibble (loByte v))) fun _ _ => rfl

theorem performs_popPair (p : PairAF) : Performs s (popPair p) :=
  .write (.sp (s.sp + 2)) trivial (performs_setStackPair _ p (popValue s)) fun _ _ => rfl

theorem performs_aluAcc (op : AluOp) (v : Byte) : Performs s (aluAcc op v) :=
  (performs_setReg_setF s .a (evalAlu op s.a v (flagC s.f)).1 (evalAlu_lowNibble op s.a v (flagC s.f))).congr
    fun _ _ => rfl

theorem performs_rotateAcc {r : Byte × Byte} (hr : r.2 &&& 0x0F = 0) : Performs s (rotateAcc r) :=
  performs_setReg_setF s .a r.1 hr

theorem performs_addHL (v : Word) : Performs s (addHL v) :=
  (performs_setHL_setF s (add16HL s.hl v (flagZ s.f)).1 (add16HL_lowNibble s.hl v (flagZ s.f))).congr
    fun _ _ => by simp [addHL]

/-- A store and then F, as INC, DEC and the CB shifts of memory do. -/
theorem performs_store_setF (addr : Word) (v : Byte) {fl : Byte} (hfl : fl &&& 0x0F = 0) :
    Performs s (fun t => store addr v t fun u => .next (u.setF fl)) :=
  performs_store s addr v fun t => performs_setF t hfl

theorem performs_storeByte (addr : Word) (v : Byte) : Performs s (storeByte addr v) :=
  performs_store s addr v performs_next

theorem performs_storeAccStep (hl' : Word) : Performs s (storeAccStep hl') :=
  (performs_store s s.hl s.a fun t => performs_setPair t .hl hl').congr fun _ _ => rfl

theorem performs_loadAccStep (hl' : Word) : Performs s (loadAccStep hl') :=
  .write (.reg .a (s.mem.read s.hl)) trivial (performs_setPair _ .hl hl') fun _ _ => rfl

theorem performs_storeSP (nn : Word) : Performs s (storeSP nn) :=
  have high (t : State) : Performs t (fun u => store (nn + 1) (hiByte u.sp) u .next) :=
    (performs_store t (nn + 1) (hiByte t.sp) performs_next).congr fun _ _ => rfl
  (performs_store s nn (loByte s.sp) high).congr fun _ _ => rfl

theorem performs_callTo (target : Word) : Performs s (callTo target) :=
  (performs_push16 s s.pc fun t => performs_jumpTo t target).congr fun _ _ => rfl

theorem performs_jumpIf (taken : Bool) (target : Word) : Performs s (jumpIf taken target) := by
  cases taken with
  | false => exact performs_next s
  | true => exact performs_jumpTo s target

theorem performs_callIf (taken : Bool) (target : Word) : Performs s (callIf taken target) := by
  cases taken with
  | false => exact performs_next s
  | true => exact performs_callTo s target

theorem performs_returnIf (taken : Bool) : Performs s (returnIf taken) := by
  cases taken with
  | false => exact performs_next s
  | true => exact .write (.sp (s.sp + 2)) trivial (performs_jumpTo _ (popValue s)) fun _ _ => rfl

end Series

/-! ## Instructions and steps -/

/-- Every instruction that some bytes stand for makes a series of allowed writes. -/
theorem exec_performs {i : Instr} (hi : i.WellFormed = true) (s : State) : Performs s (exec i) := by
  cases i using Instr.byShape with
  | nop => exact performs_next s
  | stop | halt => exact performs_last (w := .halt) trivial
  | di => exact .write (.ime false) trivial (performs_last (w := .eiPending false) trivial) fun _ _ => rfl
  | ei => exact performs_last (w := .eiPending true) trivial
  | no_entry op => exact .write (.noEntry op (s.pc - 1)) hi (performs_next _) fun _ _ => rfl
  | prefix_CB => exact absurd hi Bool.false_ne_true
  | rlca => exact (performs_rotateAcc s (r := aluRlc s.a) (packF_lowNibble ..)).congr fun _ _ => rfl
  | rrca => exact (performs_rotateAcc s (r := aluRrc s.a) (packF_lowNibble ..)).congr fun _ _ => rfl
  | rla =>
    exact (performs_rotateAcc s (r := aluRl s.cfg.rlCarryIn s.a (flagC s.f)) (packF_lowNibble ..)).congr fun _ _ => rfl
  | rra =>
    exact (performs_rotateAcc s (r := aluRr s.cfg.rlCarryIn s.a (flagC s.f)) (packF_lowNibble ..)).congr fun _ _ => rfl
  | daa =>
    exact (performs_rotateAcc s (r := aluDaa s.a (flagN s.f) (flagH s.f) (flagC s.f)) (packF_lowNibble ..)).congr
      fun _ _ => rfl
  | cpl =>
    exact (performs_rotateAcc s (r := aluCpl s.a (flagZ s.f) (flagC s.f)) (packF_lowNibble ..)).congr fun _ _ => rfl
  | scf => exact (performs_setF s (packF_lowNibble (flagZ s.f) false false true)).congr fun _ _ => rfl
  | ccf => exact (performs_setF s (packF_lowNibble (flagZ s.f) false false (!flagC s.f))).congr fun _ _ => rfl
  | ldRegReg r q => exact (performs_setReg s r (s.reg q)).congr fun _ _ => by simp [exec_ldRegReg, loadReg]
  | ldRegImm r n => exact (performs_setReg s r n).congr fun _ _ => exec_ldRegImm _ r n
  | ldRegHL r => exact (performs_setReg s r (s.mem.read s.hl)).congr fun _ _ => exec_ldRegHL _ r
  | ldHLReg r => exact (performs_storeByte s s.hl (s.reg r)).congr fun _ _ => by simp [exec_ldHLReg]
  | ld_A_mBC => exact (performs_setReg s .a (s.mem.read s.bc)).congr fun _ _ => rfl
  | ld_A_mDE => exact (performs_setReg s .a (s.mem.read s.de)).congr fun _ _ => rfl
  | ld_A_mnn nn => exact (performs_setReg s .a (s.mem.read nn)).congr fun _ _ => rfl
  | ldh_A_mn n => exact (performs_setReg s .a (s.mem.read (highPage n))).congr fun _ _ => rfl
  | ld_A_mC => exact (performs_setReg s .a (s.mem.read (highPage s.c))).congr fun _ _ => rfl
  | ld_A_mHLi => exact (performs_loadAccStep s (s.hl + 1)).congr fun _ _ => rfl
  | ld_A_mHLd => exact (performs_loadAccStep s (s.hl - 1)).congr fun _ _ => rfl
  | ld_mBC_A => exact (performs_storeByte s s.bc s.a).congr fun _ _ => rfl
  | ld_mDE_A => exact (performs_storeByte s s.de s.a).congr fun _ _ => rfl
  | ld_mHL_n n => exact (performs_storeByte s s.hl n).congr fun _ _ => rfl
  | ld_mnn_A nn => exact (performs_storeByte s nn s.a).congr fun _ _ => rfl
  | ldh_mn_A n => exact (performs_storeByte s (highPage n) s.a).congr fun _ _ => rfl
  | ld_mC_A => exact (performs_storeByte s (highPage s.c) s.a).congr fun _ _ => rfl
  | ld_mHLi_A => exact (performs_storeAccStep s (s.hl + 1)).congr fun _ _ => rfl
  | ld_mHLd_A => exact (performs_storeAccStep s (s.hl - 1)).congr fun _ _ => rfl
  | ldPairImm p nn => exact (performs_setPair s p nn).congr fun _ _ => exec_ldPairImm _ p nn
  | ld_SP_HL => exact (performs_setPair s .sp s.hl).congr fun _ _ => rfl
  | ld_HL_SPe e => exact (performs_setHL_setF s (addSPe s.sp e).1 (addSPe_lowNibble s.sp e)).congr fun _ _ => rfl
  | add_SP_e e =>
    exact .write (.sp (addSPe s.sp e).1) trivial (performs_setF _ (addSPe_lowNibble s.sp e)) fun _ _ => rfl
  | ld_mnn_SP nn => exact performs_storeSP s nn
  | incPair p => exact (performs_setPair s p (s.pair p + 1)).congr fun _ _ => by simp [exec_incPair, putPair]
  | decPair p => exact (performs_setPair s p (s.pair p - 1)).congr fun _ _ => by simp [exec_decPair, putPair]
  | addHLPair p => exact (performs_addHL s (s.pair p)).congr fun _ _ => by simp [exec_addHLPair]
  | push p => exact (performs_push16 s (s.stackPair p) performs_next).congr fun _ _ => by simp [exec_push]
  | pop p => exact (performs_popPair s p).congr fun _ _ => exec_pop _ p
  | alu op o => exact (performs_aluAcc s op (s.operand o)).congr fun _ _ => by simp [exec_alu]
  | aluImm op n => exact (performs_aluAcc s op n).congr fun _ _ => exec_aluImm _ op n
  | incOp o =>
    cases o with
    | reg r =>
      exact (performs_setReg_setF s r (aluInc (s.reg r) (flagC s.f)).1 (aluInc_lowNibble (s.reg r) (flagC s.f))).congr
        fun _ _ => by simp [exec_incReg, incReg]
    | atHL =>
      exact (performs_store_setF s s.hl (aluInc (s.mem.read s.hl) (flagC s.f)).1
        (aluInc_lowNibble (s.mem.read s.hl) (flagC s.f))).congr fun _ _ => rfl
  | decOp o =>
    cases o with
    | reg r =>
      exact (performs_setReg_setF s r (aluDec (s.reg r) (flagC s.f)).1 (aluDec_lowNibble (s.reg r) (flagC s.f))).congr
        fun _ _ => by simp [exec_decReg, decReg]
    | atHL =>
      exact (performs_store_setF s s.hl (aluDec (s.mem.read s.hl) (flagC s.f)).1
        (aluDec_lowNibble (s.mem.read s.hl) (flagC s.f))).congr fun _ _ => rfl
  | jp_nn nn => exact performs_jumpTo s nn
  | jp_HL => exact (performs_jumpTo s s.hl).congr fun _ _ => rfl
  | jr_e e => exact (performs_jumpTo s (s.pc + sext16 e)).congr fun _ _ => rfl
  | jpIf cc nn => exact (performs_jumpIf s (condHolds cc s.f) nn).congr fun _ _ => exec_jpIf _ cc nn
  | jrIf cc e => exact (performs_jumpIf s (condHolds cc s.f) (s.pc + sext16 e)).congr fun _ _ => exec_jrIf _ cc e
  | ret => exact performs_returnIf s true
  | reti => exact .write (.ime true) trivial (performs_returnIf _ true) fun _ _ => rfl
  | retIf cc => exact (performs_returnIf s (condHolds cc s.f)).congr fun _ _ => exec_retIf _ cc
  | call_nn nn => exact performs_callTo s nn
  | callIf cc nn => exact (performs_callIf s (condHolds cc s.f) nn).congr fun _ _ => exec_callIf _ cc nn
  | rst n => exact (performs_callTo s (BitVec.ofNat 16 (8 * n.val))).congr fun _ _ => exec_rst _ n
  | shift op o =>
    cases o with
    | reg r =>
      exact (performs_setReg_setF s r (evalShift op (s.reg r) (flagC s.f)).1
        (evalShift_lowNibble op (s.reg r) (flagC s.f))).congr fun _ _ => by simp [exec_shiftReg, shiftReg]
    | atHL =>
      exact (performs_store_setF s s.hl (evalShift op (s.mem.read s.hl) (flagC s.f)).1
        (evalShift_lowNibble op (s.mem.read s.hl) (flagC s.f))).congr fun _ _ => exec_shiftMem _ op
  | bitOp n o =>
    cases o with
    | reg r =>
      exact (performs_setF s (v := bitF (s.reg r) n s.f) (packF_lowNibble ..)).congr
        fun _ _ => by simp [exec_bitReg, bitTest]
    | atHL =>
      exact (performs_setF s (v := bitF (s.mem.read s.hl) n s.f) (packF_lowNibble ..)).congr fun _ _ => exec_bitMem _ n
  | resOp n o =>
    cases o with
    | reg r =>
      exact (performs_setReg s r (resBit (s.reg r) n)).congr fun _ _ => by simp [exec_resReg, loadBitReg]
    | atHL => exact (performs_storeByte s s.hl (resBit (s.mem.read s.hl) n)).congr fun _ _ => exec_resMem _ n
  | setOp n o =>
    cases o with
    | reg r =>
      exact (performs_setReg s r (setBit (s.reg r) n)).congr fun _ _ => by simp [exec_setReg, loadBitReg]
    | atHL => exact (performs_storeByte s s.hl (setBit (s.mem.read s.hl) n)).congr fun _ _ => exec_setMem _ n

/-- The decoder gives well-formed instructions alone. -/
theorem decode3_wellFormed (op b₁ b₂ : Byte) : (decode3 op b₁ b₂).1.WellFormed = true := by
  have hagrees := baseEntry_agrees op
  unfold decode3
  cases hentry : baseEntry op with rw [hentry] at hagrees
  | one i => exact hagrees.2
  | two f => exact (hagrees b₁).2
  | three f => exact (hagrees (imm16 b₁ b₂)).2
  | ext => exact (cbEntry_agrees b₁).2
  | noEntry => exact hagrees

/-- The fetched instruction makes a series of allowed writes. -/
theorem fetched_performs (s t : State) : Performs t (exec (fetchInstr s).1) :=
  exec_performs (decode3_wellFormed ..) t

/-- What every allowed write keeps, every step keeps: the advance of `pc` and the EI delay are such writes too. -/
theorem step_keeps {P : State → Prop} (hP : ∀ (w : Write) (s : State), w.Allowed s.cfg → P s → P (w.apply s))
    {s t : State} (hs : P s) (hstep : step s = .next t) : P t := by
  obtain ⟨-, rfl⟩ | ⟨-, u, hexec, rfl⟩ := step_next_cases hstep
  · exact hs
  · have hadvance : P (advance (fetchInstr s).2 s) := hP (.pc _) s trivial hs
    have hu : P u := (fetched_performs s _).keeps hP hadvance hexec
    obtain ⟨x, y, hresolve⟩ := resolveEi_eq s.eiPending u
    rw [hresolve]
    exact hP (.eiPending y) _ trivial (hP (.ime x) u trivial hu)

/-- Settles O4: the invariant is one that every allowed write keeps. -/
theorem stepKeepsTheInvariant : Obligations.StepKeepsTheInvariant := by
  unfold Obligations.StepKeepsTheInvariant
  intro s t hs hstep
  exact step_keeps (P := State.Inv) (fun _ _ hw h => Write.apply_inv hw h) hs hstep

/-- Settles O5: power-on has F zero, and every allowed write to F has the form of R27. -/
theorem lowNibbleOfFStaysZero : Obligations.LowNibbleOfFStaysZero := by
  unfold Obligations.LowNibbleOfFStaysZero
  refine ⟨fun _ _ => BitVec.zero_and, fun s t hs hstep => ?_⟩
  exact step_keeps (P := fun u => u.f &&& 0x0F = 0) (fun _ _ hw hf => Write.apply_lowNibble hw hf) hs hstep

/-- Settles O13: no write is to the configuration. -/
theorem configurationNeverChanges : Obligations.ConfigurationNeverChanges := by
  unfold Obligations.ConfigurationNeverChanges
  intro s t hstep
  exact step_keeps (P := fun u => u.cfg = s.cfg) (fun w u _ hu => (w.apply_cfg u).trans hu) rfl hstep

/-! ## Steps that differ in the interrupt bits -/

/-- The EI delay hides which interrupt bits it started from. -/
theorem sameButInterrupts_resolveEi (was was' : Bool) (t : State) (x y x' y' : Bool) :
    SameButInterrupts (resolveEi was (t.setInterrupts x y)) (resolveEi was' (t.setInterrupts x' y')) := by
  obtain ⟨x₁, y₁, h⟩ := resolveEi_eq was (t.setInterrupts x y)
  obtain ⟨x₂, y₂, h'⟩ := resolveEi_eq was' (t.setInterrupts x' y')
  rw [h, h']
  rfl

/-- Running states that differ in the interrupt bits alone both step to a next state, and these differ there alone. -/
theorem step_setInterrupts_of_running {s : State} (hrun : s.run = .running) (x y : Bool) :
    ∃ t t', step s = .next t ∧ step (s.setInterrupts x y) = .next t' ∧ SameButInterrupts t t' := by
  obtain ⟨u, hu⟩ := (fetched_performs s (advance (fetchInstr s).2 s)).next_setInterrupts
  obtain ⟨x₁, y₁, h₁⟩ := hu s.ime s.eiPending
  obtain ⟨x₂, y₂, h₂⟩ := hu x y
  refine ⟨_, _, ?_, ?_, sameButInterrupts_resolveEi s.eiPending y u x₁ y₁ x₂ y₂⟩
  · exact (step_of_running hrun).trans (congrArg (finishStep s.eiPending) h₁)
  · exact (step_of_running (s := s.setInterrupts x y) hrun).trans (congrArg (finishStep y) h₂)

/-- What `step()` returns depends on the next state's run state and, for the cost, on the flags and the fetched
bytes. -/
theorem stepReturn_setInterrupts (s : State) (x y : Bool) : stepReturn (s.setInterrupts x y) = stepReturn s := by
  cases hrun : s.run with
  | halted | faulted r => simp [stepReturn, State.setInterrupts, hrun]
  | running =>
    obtain ⟨t, t', ht, ht', hsame⟩ := step_setInterrupts_of_running hrun x y
    have hcost : cycleCost (fetchInstr (s.setInterrupts x y)).1 (s.setInterrupts x y) =
        cycleCost (fetchInstr s).1 s := rfl
    have hrun' : (s.setInterrupts x y).run = .running := hrun
    have hend : t'.run = t.run := (congrArg State.run (eq_setInterrupts_of_same hsame)).trans rfl
    simp only [stepReturn, hrun, hrun', ht, ht', hend, hcost]

/-- Settles O16: no instruction chooses its writes by the interrupt bits, and no write reads them. -/
theorem interruptBitsAreUnobservable : Obligations.InterruptBitsAreUnobservable := by
  unfold Obligations.InterruptBitsAreUnobservable
  intro s s' hsame
  rw [eq_setInterrupts_of_same hsame]
  refine ⟨fun t ht => ?_, fun r hr => ?_, (stepReturn_setInterrupts ..).symm⟩
  · cases hrun : s.run with
    | running =>
      obtain ⟨u, u', hu, hu', huu'⟩ := step_setInterrupts_of_running hrun s'.ime s'.eiPending
      obtain rfl : u = t := by simpa [hu] using ht
      exact ⟨u', hu', huu'⟩
    | halted =>
      obtain rfl : s = t := by simpa [step_of_halted hrun] using ht
      exact ⟨_, step_of_halted (s := s.setInterrupts _ _) hrun, rfl⟩
    | faulted r => simp [step_of_faulted hrun] at ht
  · cases hrun : s.run with
    | running =>
      obtain ⟨u, -, hu, -, -⟩ := step_setInterrupts_of_running hrun s'.ime s'.eiPending
      simp [hu] at hr
    | halted => simp [step_of_halted hrun] at hr
    | faulted r' =>
      obtain rfl : r' = r := by simpa [step_of_faulted hrun] using hr
      exact step_of_faulted (s := s.setInterrupts _ _) hrun

/-! ## Pairs, power-on and reset -/

/-- AF reads back as written but for the low nibble that F does not hold (R23, R27). -/
theorem State.af_setAF (s : State) (v : Word) : (s.setAF v).af = v &&& 0xFFF0 :=
  calc join (hiByte v) (loByte v &&& 0xF0)
    _ = join (hiByte v &&& 0xFF) (loByte v &&& 0xF0) := congrArg (join · _) BitVec.and_allOnes.symm
    _ = join (hiByte v) (loByte v) &&& 0xFFF0 := BitVec.and_append.symm
    _ = v &&& 0xFFF0 := congrArg (· &&& _) (join_hiByte_loByte v)

/-- Settles O24: each view is the join of its halves. -/
theorem pairViews : Obligations.PairViews := by
  unfold Obligations.PairViews
  intro s v
  have hjoin : join (hiByte v) (loByte v) = v := join_hiByte_loByte v
  exact ⟨⟨rfl, rfl, rfl, rfl⟩, ⟨hjoin, hjoin, hjoin, s.af_setAF v⟩, rfl, rfl, rfl, rfl⟩

/-- Settles O1: the values are those of R36. -/
theorem powerOnValues : Obligations.PowerOnValues := by
  unfold Obligations.PowerOnValues
  intro cfg image
  exact ⟨State.powerOn cfg image, rfl, rfl, rfl, rfl, rfl, rfl, rfl, rfl, rfl, rfl, rfl, rfl, rfl, rfl, rfl⟩

/-- Power-on from a canonical image has the invariant, whatever the configuration. -/
theorem State.powerOn_inv (cfg : Config) {image : Memory} (h : image.wf = true) : (State.powerOn cfg image).Inv :=
  ⟨h, BitVec.zero_and, rfl⟩

/-- Settles O3: the empty memory list is canonical. -/
theorem resetHasTheInvariant : Obligations.ResetHasTheInvariant := by
  unfold Obligations.ResetHasTheInvariant
  exact ⟨rfl, State.powerOn_inv Config.default wf_reset⟩

end Sys2Proof.Machine
end

section
/-! The memory as an instruction leaves it (20_memory.md R52, R53): a byte reads as the last value written to it, and a
byte the bus may not write stays as it is, whatever the policy. -/

namespace Sys2Proof.Machine

/-- An allowed write leaves a byte the bus may not write as it is: a store that lands, lands elsewhere. -/
theorem Write.apply_read_of_readOnly {w : Write} {s : State} {x : Word} (hw : w.Allowed s.cfg)
    (hro : writable s.cfg x = false) : (w.apply s).mem.read x = s.mem.read x := by
  cases w with
  | reg r v => simp [Write.apply]
  | mem addr v =>
    have hrw : writable s.cfg addr = true := hw
    have hne : x ≠ addr := by
      rintro rfl
      simp [hrw] at hro
    exact Memory.read_write_of_ne hne s.mem v
  | flags | sp | pc | ime | eiPending | halt | refuse | noEntry => rfl

/-- Settles O14: every allowed write keeps the configuration and what a read-only byte reads as, so every step does. -/
theorem readOnlyBytesNeverChange : Obligations.ReadOnlyBytesNeverChange := by
  unfold Obligations.ReadOnlyBytesNeverChange
  intro s t x hro hstep
  have hkept : t.cfg = s.cfg ∧ t.mem.read x = s.mem.read x := by
    refine step_keeps (P := fun u => u.cfg = s.cfg ∧ u.mem.read x = s.mem.read x) ?_ ⟨rfl, rfl⟩ hstep
    intro w u hw ⟨hcfg, hread⟩
    have hro' : writable u.cfg x = false := by rw [hcfg, hro]
    exact ⟨(w.apply_cfg u).trans hcfg, (Write.apply_read_of_readOnly hw hro').trans hread⟩
  exact hkept.2

/-- Settles O23: the write is found at its own key because the list is canonical, and no other key sees it. -/
theorem readAfterWrite : Obligations.ReadAfterWrite := by
  unfold Obligations.ReadAfterWrite
  intro m addr v hwf
  exact ⟨Memory.read_write_same hwf addr v, fun _ hne => Memory.read_write_of_ne hne m v⟩

end Sys2Proof.Machine
end

section
/-! The decoder and the encoder agree (30_encoding.md R71, R84 to R88): the bytes of an instruction decode to it, what is
decoded has the bytes it was read from, and the entry of the first byte gives the length. -/

open Sys2Proof.Statements

namespace Sys2Proof

/-! ## The length of an entry -/

/-- The number of bytes of the instructions of an entry; of a missing entry, the byte fetched before the fault (R86). -/
def Entry.length : Entry → Nat
  | .one _ => 1
  | .two _ => 2
  | .three _ => 3
  | .ext => 2
  | .noEntry => 1

/-- The length depends on the first byte alone (R88). -/
theorem decode3_length (op b₁ b₂ : Byte) : (decode3 op b₁ b₂).2 = (baseEntry op).length := by
  unfold decode3
  cases baseEntry op <;> rfl

theorem Entry.length_pos (e : Entry) : 1 ≤ e.length := by
  cases e <;> simp [Entry.length]

theorem Entry.length_le_three (e : Entry) : e.length ≤ 3 := by
  cases e <;> simp [Entry.length]

/-- The base table's entries have the lengths that R88 lists. -/
theorem baseEntry_length : ∀ op : Byte, (baseEntry op).length =
    if op ∈ threeByteOpcodes then 3 else if op ∈ twoByteOpcodes then 2 else 1 := by
  decide

/-- The eleven bytes of R86 have no entry. -/
theorem baseEntry_of_unassigned {op : Byte} (h : unassignedOpcodes.contains op = true) : baseEntry op = .noEntry := by
  simp only [unassignedOpcodes, List.contains_eq_mem, List.mem_cons, List.not_mem_nil, or_false, decide_eq_true_eq] at h
  obtain rfl | rfl | rfl | rfl | rfl | rfl | rfl | rfl | rfl | rfl | rfl := h <;> rfl

/-- Case analysis over the eight values of the `r` field (R73): each register, and memory at HL. -/
theorem Operand.byCode {P : Operand → Prop} (b : P (.reg .b)) (c : P (.reg .c)) (d : P (.reg .d)) (e : P (.reg .e))
    (h : P (.reg .h)) (l : P (.reg .l)) (atHL : P .atHL) (a : P (.reg .a)) (o : Operand) : P o := by
  cases o with
  | reg r => cases r <;> assumption
  | atHL => exact atHL

/-! ## From bytes to an instruction and back -/

/-- The bytes of a decoded instruction are the bytes it was read from, as many as its length. -/
theorem encode_decode3 (op b₁ b₂ : Byte) :
    encode (decode3 op b₁ b₂).1 = [op, b₁, b₂].take (baseEntry op).length := by
  have hagrees := baseEntry_agrees op
  unfold decode3
  cases hentry : baseEntry op with rw [hentry] at hagrees
  | one i => exact hagrees.1
  | two f => exact (hagrees b₁).1
  | three f =>
    have hbytes := (hagrees (imm16 b₁ b₂)).1
    rwa [immLo_imm16, immHi_imm16] at hbytes
  | ext =>
    obtain rfl : op = 0xCB := hagrees
    exact (cbEntry_agrees b₁).1
  | noEntry => rfl

/-- The bytes that `decode` hands to `decode3` begin as the list itself does. -/
theorem take_three_getD (op : Byte) (tail : List Byte) {n : Nat} (h : n ≤ (op :: tail).length) (h3 : n ≤ 3) :
    [op, tail.getD 0 0, tail.getD 1 0].take n = (op :: tail).take n := by
  match tail, n with
  | [], 0 | [], 1 | _ :: _, 0 | _ :: _, 1 => rfl
  | _ :: _, 2 => rfl
  | _ :: _ :: _, 3 => rfl

/-- What an answer of the decoder says: `decode3` gives the instruction, the list is at least as long as the instruction, and
the rest is what stands after the instruction's length. -/
theorem decode_eq_ok {op : Byte} {tail rest : List Byte} {i : Instr} (h : decode (op :: tail) = .ok (i, rest)) :
    i = (decode3 op (tail.getD 0 0) (tail.getD 1 0)).1 ∧ (baseEntry op).length ≤ (op :: tail).length ∧
      rest = (op :: tail).drop (baseEntry op).length := by
  simp only [decode, decode3_length] at h
  split at h
  · next hlen =>
    obtain ⟨n, hn⟩ := Nat.exists_eq_add_one.mpr (baseEntry op).length_pos
    injection h with h
    injection h with hi hrest
    refine ⟨hi.symm, hlen, ?_⟩
    rw [← hrest, hn]
    rfl
  · injection h

/-- Settles O19: the decoder splits the list at the instruction's length, and the bytes before the split are the
instruction's own. -/
theorem encodeOfDecode : Obligations.EncodeOfDecode := by
  unfold Obligations.EncodeOfDecode
  intro bs rest i h
  cases bs with
  | nil => injection h
  | cons op tail =>
    obtain ⟨rfl, hlen, rfl⟩ := decode_eq_ok h
    refine ⟨Machine.decode3_wellFormed .., ?_⟩
    rw [encode_decode3, take_three_getD op tail hlen (baseEntry op).length_le_three]
    exact List.take_append_drop ..

/-! ## From an instruction to its bytes and back -/

/-- Settles O18: each shape's bytes have its entry in the tables, at every value of its operand fields. -/
theorem decodeOfEncode : Obligations.DecodeOfEncode := by
  unfold Obligations.DecodeOfEncode
  intro i rest hwf
  cases i using Instr.byShape with
  | nop | halt | di | ei => exact decode_one rfl rest
  | rlca | rrca | rla | rra | daa | cpl | scf | ccf => exact decode_one rfl rest
  | ld_A_mBC | ld_A_mDE | ld_A_mC | ld_A_mHLi | ld_A_mHLd => exact decode_one rfl rest
  | ld_mBC_A | ld_mDE_A | ld_mC_A | ld_mHLi_A | ld_mHLd_A => exact decode_one rfl rest
  | ld_SP_HL | jp_HL | ret | reti => exact decode_one rfl rest
  | ldRegReg r q => cases r <;> cases q <;> exact decode_one rfl rest
  | ldRegHL r | ldHLReg r => cases r <;> exact decode_one rfl rest
  | alu op o => cases op <;> cases o using Operand.byCode <;> exact decode_one rfl rest
  | incOp o | decOp o => cases o using Operand.byCode <;> exact decode_one rfl rest
  | incPair p | decPair p | addHLPair p | push p | pop p => cases p <;> exact decode_one rfl rest
  | retIf cc => cases cc <;> exact decode_one rfl rest
  | rst t => cases t <;> exact decode_one rfl rest
  | stop b | jr_e b | ldh_mn_A b | ldh_A_mn b | ld_mHL_n b | add_SP_e b | ld_HL_SPe b => exact decode_two rfl b rest
  | ldRegImm r n => cases r <;> exact decode_two rfl n rest
  | aluImm op n => cases op <;> exact decode_two rfl n rest
  | jrIf cc e => cases cc <;> exact decode_two rfl e rest
  | ld_mnn_SP nn | ld_mnn_A nn | ld_A_mnn nn | jp_nn nn | call_nn nn => exact decode_three rfl nn rest
  | ldPairImm p nn => cases p <;> exact decode_three rfl nn rest
  | jpIf cc nn | callIf cc nn => cases cc <;> exact decode_three rfl nn rest
  | shift op o => cases op <;> cases o using Operand.byCode <;> exact decode_ext rfl _ rest
  | bitOp b o | resOp b o | setOp b o => cases b <;> cases o using Operand.byCode <;> exact decode_ext rfl _ rest
  | prefix_CB => exact absurd hwf Bool.false_ne_true
  | no_entry op => exact decode_noEntry (baseEntry_of_unassigned hwf) rest

/-! ## Lengths and single words -/

/-- Settles O20: the length is that of the first byte's entry. -/
theorem lengthFromTheFirstByte : Obligations.LengthFromTheFirstByte := by
  unfold Obligations.LengthFromTheFirstByte
  intro op b₁ b₂
  rw [decode3_length]
  exact baseEntry_length op

/-- Settles O21: each word's first byte has its entry in the maps of R84 and R85. -/
theorem specWordsDecode : Obligations.SpecWordsDecode := by
  unfold Obligations.SpecWordsDecode
  exact ⟨decode_two rfl 0x2A [], decode_one rfl [], decode_three rfl 0x1234 [], decode_three rfl 0xC100 [],
    decode_one rfl [], decode_three rfl 0x1234 [], decode_two rfl 0x5A [], decode_noEntry rfl [0x00],
    decode_ext rfl 0x37 [], decode_ext rfl 0x7C [], decode_ext rfl 0xFE []⟩

end Sys2Proof
end

section
/-! The dispatcher (40_dispatch.md R100 to R112): the instruction a step fetches and its cost, the EI delay at the step's
end, the terminal run states, what `step()` returns to the host, and construction. -/

namespace Sys2Proof.Machine

/-! ## The fetched instruction -/

/-- The fetched length is the number of bytes of the fetched instruction. -/
theorem fetchInstr_length (s : State) : (fetchInstr s).2 = (encode (fetchInstr s).1).length := by
  have hle := (baseEntry (s.mem.read s.pc)).length_le_three
  simp [fetchInstr, encode_decode3, decode3_length, hle]

/-- The bytes at `pc` decode to the fetched instruction. -/
theorem fetchInstr_of_decode {s : State} {i : Instr} {rest : List Byte}
    (h : decode [s.mem.read s.pc, s.mem.read (s.pc + 1), s.mem.read (s.pc + 2)] = .ok (i, rest)) :
    (fetchInstr s).1 = i :=
  (decode_eq_ok h).1.symm

/-- Settles O6: the fetch of a step decodes the same three bytes, and its length is that of the instruction's bytes. -/
theorem stepRunsTheDecodedInstruction : Obligations.StepRunsTheDecodedInstruction := by
  unfold Obligations.StepRunsTheDecodedInstruction
  intro s i rest hrun hdecode
  obtain rfl := fetchInstr_of_decode hdecode
  refine ⟨decode3_wellFormed .., ?_⟩
  rw [step_of_running hrun, fetchInstr_length]
  rfl

/-- A byte without an entry is fetched alone (40_dispatch.md R102). -/
theorem fetchInstr_of_unassigned {s : State} (h : unassignedOpcodes.contains (s.mem.read s.pc) = true) :
    fetchInstr s = (.no_entry (s.mem.read s.pc), 1) := by
  simp [fetchInstr, decode3, baseEntry_of_unassigned h]

/-- The step of a byte without an entry records the byte and the address it was fetched from (60_exceptions.md R301). -/
theorem step_of_unassigned {s : State} (hrun : s.run = .running)
    (h : unassignedOpcodes.contains (s.mem.read s.pc) = true) :
    step s = .next { s with pc := s.pc + 1, run := .faulted (.unimplementedOpcode (s.mem.read s.pc) s.pc) } := by
  have hpc : s.pc + 1 - 1 = s.pc := BitVec.add_sub_cancel ..
  calc step s
    _ = finishStep s.eiPending (exec (.no_entry (s.mem.read s.pc)) (advance 1 s)) := by
      rw [step_of_running hrun, fetchInstr_of_unassigned h]
    _ = .next { s with
          pc := s.pc + 1, run := .faulted (.unimplementedOpcode (s.mem.read s.pc) (s.pc + 1 - 1)) } := rfl
    _ = _ := by rw [hpc]

/-! ## The cost of the fetched instruction -/

/-- The second byte matters to the cost of a CB instruction alone. -/
theorem costOf_of_ne_prefix {op : Byte} (h : op ≠ 0xCB) (sub sub' f : Byte) : costOf op sub f = costOf op sub' f := by
  simp only [costOf, if_neg h]

/-- The cost of a decoded instruction is that of the bytes it was decoded from. -/
theorem cycleCost_decode3 (op b₁ b₂ : Byte) (s : State) : cycleCost (decode3 op b₁ b₂).1 s = costOf op b₁ s.f := by
  have hprefix : op = 0xCB → (baseEntry op).length = 2 := by rintro rfl; rfl
  unfold cycleCost
  rw [encode_decode3]
  match hlen : (baseEntry op).length, (baseEntry op).length_pos, (baseEntry op).length_le_three with
  | 1, _, _ =>
    exact costOf_of_ne_prefix (fun h => by simp [hprefix h] at hlen) 0 b₁ s.f
  | 2, _, _ | 3, _, _ => rfl

/-- The table's costs lie between 4 and 24 (70_reset_and_hazards.md R340), but for the prefix and the missing
entries. -/
theorem baseCost_bounds : ∀ op : Byte, unassignedOpcodes.contains op = false → op ≠ 0xCB →
    4 ≤ baseCost op ∧ baseCost op ≤ 24 := by
  decide

theorem cbCost_bounds (sub : Byte) : 4 ≤ cbCost sub ∧ cbCost sub ≤ 24 := by
  unfold cbCost
  split
  · split <;> decide
  · decide

theorem notTakenCost_bounds {op : Byte} {n : Nat} (h : notTakenCost op = some n) : 4 ≤ n ∧ n ≤ 24 := by
  unfold notTakenCost at h
  split at h <;> simp at h <;> omega

/-- Every byte with an entry has a cost, taken or not, between 4 and 24 (70_reset_and_hazards.md R340). -/
theorem costOf_bounds {op : Byte} (h : unassignedOpcodes.contains op = false) (sub f : Byte) :
    ∃ n, costOf op sub f = some n ∧ 4 ≤ n ∧ n ≤ 24 := by
  unfold costOf
  by_cases hcb : op = 0xCB
  · exact ⟨cbCost sub, if_pos hcb, cbCost_bounds sub⟩
  · have hbase := baseCost_bounds op h hcb
    rw [if_neg hcb]
    cases hnot : notTakenCost op with
    | some n =>
      dsimp only
      split
      · exact ⟨_, rfl, hbase⟩
      · exact ⟨n, rfl, notTakenCost_bounds hnot⟩
    | none => exact ⟨_, if_neg (by omega), hbase⟩

/-! ## The end of a step -/

/-- A faulting instruction leaves the EI delay as it is (40_dispatch.md R109). -/
theorem resolveEi_of_faulted {u : State} {r : Fault} (h : u.run = .faulted r) (was : Bool) : resolveEi was u = u := by
  simp [resolveEi, h]

/-- A completed instruction ends in the EI delay (40_dispatch.md R109). -/
theorem resolveEi_of_safe {u : State} (h : u.Safe) (was : Bool) :
    resolveEi was u = if was && u.eiPending then { u with ime := true, eiPending := false } else u := by
  cases hrun : u.run with
  | faulted r => exact absurd hrun (h r)
  | running | halted => simp only [resolveEi, State.setIme, State.setEiPending, hrun]

/-- Settles O7: `resolveEi` on a completed instruction with the delay due, on one without, and on a faulting one. -/
theorem eiDelayResolvesAfterCompletion : Obligations.EiDelayResolvesAfterCompletion := by
  unfold Obligations.EiDelayResolvesAfterCompletion
  intro was u
  refine ⟨fun hsafe hwas hpending => ?_, fun hsafe hnot => ?_, fun r hfault => ?_⟩
  · simp [finishStep, resolveEi_of_safe hsafe, hwas, hpending]
  · have hdue : (was && u.eiPending) = false := Bool.and_eq_false_iff.mpr hnot
    simp [finishStep, resolveEi_of_safe hsafe, hdue]
  · simp [finishStep, resolveEi_of_faulted hfault]

/-! ## The terminal run states -/

theorem stepReturn_of_halted {s : State} (h : s.run = .halted) : stepReturn s = some .halted := by
  simp [stepReturn, h]

/-- Where a step changes nothing, no number of steps does. -/
theorem run_of_step_self {s : State} (h : step s = .next s) (k : Nat) : Host.Core.run core k s = .next s := by
  have hstep : core.step s = .next s := h
  induction k with
  | zero => rfl
  | succ k ih => simp only [Host.Core.run, hstep, ih]

/-- Settles O8: a Halted step changes nothing, so neither do many, and a Faulted one answers the recorded fault. -/
theorem terminalRunStates : Obligations.TerminalRunStates := by
  unfold Obligations.TerminalRunStates
  intro s
  refine ⟨fun hhalted => ⟨stepReturn_of_halted hhalted, run_of_step_self (step_of_halted hhalted)⟩, ?_⟩
  intro r hfault t
  simp [step_of_faulted hfault]

/-! ## What a running step returns -/

/-- A step that ends in a fault returns it (60_exceptions.md R304). -/
theorem stepReturn_of_faulting {s t : State} {r : Fault} (hrun : s.run = .running) (hstep : step s = .next t)
    (ht : t.run = .faulted r) : stepReturn s = some (.fault r) := by
  simp [stepReturn, hrun, hstep, ht]

/-- A step that ends in no fault returns the cost of the fetched instruction (40_dispatch.md R105). -/
theorem stepReturn_of_completing {s t : State} (hrun : s.run = .running) (hstep : step s = .next t) (ht : t.Safe) :
    stepReturn s = (cycleCost (fetchInstr s).1 s).map .ok := by
  cases htrun : t.run with
  | faulted r => exact absurd htrun (ht r)
  | running | halted => simp [stepReturn, hrun, hstep, htrun]

/-- A step that ends in no fault fetched a byte with an entry. -/
theorem assigned_of_completing {s t : State} (hrun : s.run = .running) (hstep : step s = .next t) (ht : t.Safe) :
    unassignedOpcodes.contains (s.mem.read s.pc) = false := by
  by_contra h
  rw [step_of_unassigned hrun (by simpa using h)] at hstep
  obtain rfl := Host.Outcome.next.inj hstep
  exact ht _ rfl

/-- Settles O12: a completing step fetched a byte with an entry, whose cost is in the bounds of R340. -/
theorem stepReturnsCostOrFault : Obligations.StepReturnsCostOrFault := by
  unfold Obligations.StepReturnsCostOrFault
  intro s t hrun hstep
  refine ⟨fun r hfault => stepReturn_of_faulting hrun hstep hfault, fun hsafe => ?_⟩
  obtain ⟨n, hcost, hlo, hhi⟩ := costOf_bounds (assigned_of_completing hrun hstep hsafe) (s.mem.read (s.pc + 1)) s.f
  have hcycles : cycleCost (fetchInstr s).1 s = some n := (cycleCost_decode3 ..).trans hcost
  refine ⟨n, hcycles, hlo, hhi, ?_⟩
  rw [stepReturn_of_completing hrun hstep hsafe, hcycles]
  rfl

/-! ## Construction -/

/-- Settles O2: construction is a match on the image, and the codes are a table. -/
theorem constructionAndFaultCodes : Obligations.ConstructionAndFaultCodes := by
  unfold Obligations.ConstructionAndFaultCodes
  intro cfg image op w v
  exact ⟨rfl, rfl, rfl, rfl, rfl⟩

end Sys2Proof.Machine
end

section
/-! 8-bit arithmetic and logic (42_arith8.md R150 to R177): the ALU functions in the terms of the statements, the forms of
the ALU operations, INC and DEC of a register, and of the byte at HL, whose store comes before F. -/

open Sys2Proof.Statements

namespace Sys2Proof.Machine

/-! ## The ALU functions in exact integers -/

/-- The four flags side by side are the four flags shifted into place (41_alu.md R120). -/
theorem packF_eq_flagByte : ∀ z n h c : Bool, packF z n h c = flagByte z n h c := by decide

theorem nib_eq_mod (v : Byte) : nib v = v.toNat % 16 :=
  (BitVec.toNat_and v 0x0F).trans (Nat.and_two_pow_sub_one_eq_mod v.toNat 4)

/-- The exact difference of R124 modulo 256 is the difference of bytes. -/
theorem ofInt_sub_sub (x y : Byte) (c : Nat) :
    BitVec.ofInt 8 ((x.toNat : Int) - (y.toNat : Int) - (c : Int)) = x - y - BitVec.ofNat 8 c := by
  apply BitVec.eq_of_toNat_eq
  simp only [BitVec.toNat_ofInt, BitVec.toNat_sub, BitVec.toNat_ofNat]
  omega

theorem aluAdd_eq (x y : Byte) : aluAdd x y =
    (BitVec.ofNat 8 (x.toNat + y.toNat), flagByte (BitVec.ofNat 8 (x.toNat + y.toNat) == 0) false
      (decide (x.toNat % 16 + y.toNat % 16 > 15)) (decide (x.toNat + y.toNat > 255))) := by
  simp only [aluAdd, packF_eq_flagByte, nib_eq_mod]

theorem aluAdc_eq (x y : Byte) (cin : Bool) : aluAdc x y cin =
    (BitVec.ofNat 8 (x.toNat + y.toNat + cin.toNat),
      flagByte (BitVec.ofNat 8 (x.toNat + y.toNat + cin.toNat) == 0) false
        (decide (x.toNat % 16 + y.toNat % 16 + cin.toNat > 15)) (decide (x.toNat + y.toNat + cin.toNat > 255))) := by
  simp only [aluAdc, packF_eq_flagByte, nib_eq_mod]

theorem aluSub_eq (x y : Byte) : aluSub x y =
    (x - y, flagByte (x - y == 0) true (decide (x.toNat % 16 < y.toNat % 16)) (decide (x.toNat < y.toNat))) := by
  simp only [aluSub, packF_eq_flagByte, nib_eq_mod]

theorem aluSbc_eq (x y : Byte) (cin : Bool) : aluSbc x y cin =
    (x - y - BitVec.ofNat 8 cin.toNat, flagByte (x - y - BitVec.ofNat 8 cin.toNat == 0) true
      (decide (x.toNat % 16 < y.toNat % 16 + cin.toNat)) (decide (x.toNat < y.toNat + cin.toNat))) := by
  simp only [aluSbc, packF_eq_flagByte, nib_eq_mod, ofInt_sub_sub]

/-- A difference is zero exactly when its operands are equal. -/
theorem sub_beq_zero (x y : Byte) : (x - y == 0) = (x == y) := by
  rw [Bool.eq_iff_iff, beq_iff_eq, beq_iff_eq, sub_eq_zero]

theorem aluCp_eq (x y : Byte) : aluCp x y =
    (x, flagByte (x == y) true (decide (x.toNat % 16 < y.toNat % 16)) (decide (x.toNat < y.toNat))) := by
  rw [aluCp, aluSub_eq, sub_beq_zero]

theorem aluAnd_eq (x y : Byte) : aluAnd x y = (x &&& y, flagByte (x &&& y == 0) false true false) := by
  simp only [aluAnd, packF_eq_flagByte]

theorem aluXor_eq (x y : Byte) : aluXor x y = (x ^^^ y, flagByte (x ^^^ y == 0) false false false) := by
  simp only [aluXor, packF_eq_flagByte]

theorem aluOr_eq (x y : Byte) : aluOr x y = (x ||| y, flagByte (x ||| y == 0) false false false) := by
  simp only [aluOr, packF_eq_flagByte]

theorem aluInc_eq (v : Byte) (cin : Bool) : aluInc v cin =
    (v + 1, flagByte (v + 1 == 0) false (decide (v.toNat % 16 = 15)) cin) := by
  simp only [aluInc, packF_eq_flagByte, nib_eq_mod]

theorem aluDec_eq (v : Byte) (cin : Bool) : aluDec v cin =
    (v - 1, flagByte (v - 1 == 0) true (decide (v.toNat % 16 = 0)) cin) := by
  simp only [aluDec, packF_eq_flagByte, nib_eq_mod]

/-! ## Bytes and costs -/

/-- The opcode of the r and (HL) forms is its fields (30_encoding.md R73, R77). -/
theorem encode_alu (op : AluOp) (o : Operand) : encode (.alu op o) = [0b10#2 ++ op.code ++ o.code] := by
  cases op <;> cases o using Operand.byCode <;> rfl

theorem cycleCost_alu (op : AluOp) (o : Operand) (s : State) :
    cycleCost (.alu op o) s = some (if o = .atHL then 8 else 4) := by
  cases op <;> cases o using Operand.byCode <;> rfl

theorem encode_aluImm (op : AluOp) (n : Byte) : encode (.aluImm op n) = [0b11#2 ++ op.code ++ 0b110#3, n] := by
  cases op <;> rfl

theorem cycleCost_aluImm (op : AluOp) (n : Byte) (s : State) : cycleCost (.aluImm op n) s = some 8 := by
  cases op <;> rfl

theorem encode_incReg (r : Reg8) : encode (.incOp (.reg r)) = [0b00#2 ++ r.code ++ 0b100#3] := by
  cases r <;> rfl

theorem cycleCost_incReg (r : Reg8) (s : State) : cycleCost (.incOp (.reg r)) s = some 4 := by
  cases r <;> rfl

theorem encode_decReg (r : Reg8) : encode (.decOp (.reg r)) = [0b00#2 ++ r.code ++ 0b101#3] := by
  cases r <;> rfl

theorem cycleCost_decReg (r : Reg8) (s : State) : cycleCost (.decOp (.reg r)) s = some 4 := by
  cases r <;> rfl

/-! ## The ALU operations on A -/

/-- The forms of an ALU operation all run its ALU function, so what the function computes decides them. -/
theorem aluForms_of_evalAlu {op : AluOp} {res fl : Byte → Byte → Nat → Byte}
    (h : ∀ x y cin, evalAlu op x y cin = (res x y cin.toNat, fl x y cin.toNat)) : AluForms op op.code res fl := by
  intro s o n
  have hacc (v : Byte) : aluAcc op v s =
      .next { s with a := res s.a v (fbit s 4).toNat, f := fl s.a v (fbit s 4).toNat } := by
    rw [aluAcc, h]
    rfl
  exact ⟨⟨encode_alu op o, (exec_alu s op o).trans (hacc _), cycleCost_alu op o s⟩,
    ⟨encode_aluImm op n, (exec_aluImm s op n).trans (hacc n), cycleCost_aluImm op n s⟩⟩

/-- Settles O25: the forms run `aluAdd` and `aluAdc`. -/
theorem addAndAddWithCarry : Obligations.AddAndAddWithCarry := by
  unfold Obligations.AddAndAddWithCarry
  exact ⟨aluForms_of_evalAlu fun x y _ => aluAdd_eq x y, aluForms_of_evalAlu aluAdc_eq⟩

/-- Settles O26: the forms run `aluSub` and `aluSbc`. -/
theorem subtractAndSubtractWithCarry : Obligations.SubtractAndSubtractWithCarry := by
  unfold Obligations.SubtractAndSubtractWithCarry
  exact ⟨aluForms_of_evalAlu fun x y _ => aluSub_eq x y, aluForms_of_evalAlu aluSbc_eq⟩

/-- Settles O27: the forms run `aluCp`, which gives A back. -/
theorem compareKeepsTheAccumulator : Obligations.CompareKeepsTheAccumulator := by
  unfold Obligations.CompareKeepsTheAccumulator
  exact aluForms_of_evalAlu fun x y _ => aluCp_eq x y

/-- Settles O28: the forms run `aluAnd`, `aluXor` and `aluOr`. -/
theorem andXorOr : Obligations.AndXorOr := by
  unfold Obligations.AndXorOr
  exact ⟨aluForms_of_evalAlu fun x y _ => aluAnd_eq x y, aluForms_of_evalAlu fun x y _ => aluXor_eq x y,
    aluForms_of_evalAlu fun x y _ => aluOr_eq x y⟩

/-! ## INC and DEC -/

/-- Settles O29: INC and DEC write the register and then F, with the carry of the F before. -/
theorem incAndDecRegister : Obligations.IncAndDecRegister := by
  unfold Obligations.IncAndDecRegister
  intro s r
  refine ⟨⟨encode_incReg r, ?_, cycleCost_incReg r s⟩, ⟨encode_decReg r, ?_, cycleCost_decReg r s⟩⟩
  · rw [exec_incReg, incReg, aluInc_eq]
    rfl
  · rw [exec_decReg, decReg, aluDec_eq]
    rfl

/-- An instruction that is one bus store and then an update stores its byte as the statements say: the store lands where the
bus may write, is dropped under policy Ignore, and faults before the update under policy Fault (20_memory.md R53). -/
theorem storesByte_of_exec_eq_store {i : Instr} {s : State} {addr : Word} {v : Byte} {after : State → State}
    (hwf : s.mem.wf = true) (hexec : exec i s = store addr v s fun t => .next (after t)) :
    StoresByte i s addr v after := by
  refine ⟨fun haccepted => ?_, fun ⟨hw, hp⟩ => hexec.trans (store_of_fault hw hp)⟩
  cases hw : writable s.cfg addr with
  | true =>
    refine ⟨s.mem.write addr v, hexec.trans (store_of_writable hw), Memory.wf_write hwf addr v, fun x => ?_⟩
    by_cases hx : x = addr
    · simp [hx, hw, Memory.read_write_same hwf]
    · simp [hx, Memory.read_write_of_ne hx]
  | false =>
    have hp : s.cfg.roWritePolicy = .ignore := haccepted.resolve_left (by simp [hw])
    exact ⟨s.mem, hexec.trans (store_of_ignore hw hp), hwf, fun x => by simp [hw]⟩

/-- Settles O30: INC (HL) and DEC (HL) are one store at HL and then the write of F. -/
theorem incAndDecMemory : Obligations.IncAndDecMemory := by
  unfold Obligations.IncAndDecMemory
  rintro s v hwf rfl
  refine ⟨⟨rfl, rfl, storesByte_of_exec_eq_store hwf ?_⟩, ⟨rfl, rfl, storesByte_of_exec_eq_store hwf ?_⟩⟩
  · refine (exec_incMem s).trans ?_
    rw [incMem, aluInc_eq]
    rfl
  · refine (exec_decMem s).trans ?_
    rw [decMem, aluDec_eq]
    rfl

end Sys2Proof.Machine
end

section
/-! Accumulator rotates, DAA, CPL, SCF and CCF (43_rotate_misc.md R180 to R187): their ALU functions in the terms of the
statements, and the write of A and F, or of F alone, that ends each of them. -/

open Sys2Proof.Statements

namespace Sys2Proof.Machine

/-! ## The two writes -/

/-- An instruction that ends in `rotateAcc` writes the two results of its ALU function, and nothing else. -/
theorem rotateAcc_eq_next {r : Byte × Byte} {a f : Byte} (h : r = (a, f)) (s : State) :
    rotateAcc r s = .next { s with a := a, f := f } := by
  rw [h]
  rfl

/-- An instruction that ends in `setFlags` writes its four flags, and nothing else. -/
theorem setFlags_packF_eq_next (z n h c : Bool) (s : State) :
    setFlags (packF z n h c) s = .next { s with f := flagByte z n h c } := by
  rw [packF_eq_flagByte]
  rfl

/-! ## The rotates -/

/-- `rotl8` of 00_scope.md R11 is the rotation of bit vectors. -/
theorem rotl8_eq_rotateLeft (v : Byte) : rotl8 v = v.rotateLeft 1 := rfl

theorem rotr8_eq_rotateRight (v : Byte) : rotr8 v = v.rotateRight 1 := rfl

theorem aluRlc_eq (x : Byte) : aluRlc x = (x.rotateLeft 1, flagByte false false false (x.getLsbD 7)) := by
  rw [aluRlc, rotl8_eq_rotateLeft, packF_eq_flagByte]

theorem aluRrc_eq (x : Byte) : aluRrc x = (x.rotateRight 1, flagByte false false false (x.getLsbD 0)) := by
  rw [aluRrc, rotr8_eq_rotateRight, packF_eq_flagByte]

theorem aluRl_eq (carryIn : Bool) (x : Byte) (cin : Bool) : aluRl carryIn x cin =
    (if carryIn then x <<< 1 ||| (BitVec.ofBool cin).setWidth 8 else x.rotateLeft 1,
      flagByte false false false (x.getLsbD 7)) := by
  rw [aluRl, rotlc8, rotl8_eq_rotateLeft, packF_eq_flagByte]

theorem aluRr_eq (carryIn : Bool) (x : Byte) (cin : Bool) : aluRr carryIn x cin =
    (if carryIn then x >>> 1 ||| (BitVec.ofBool cin).setWidth 8 <<< 7 else x.rotateRight 1,
      flagByte false false false (x.getLsbD 0)) := by
  rw [aluRr, rotrc8, rotr8_eq_rotateRight, packF_eq_flagByte]

/-- Settles O31: RLCA and RRCA write the results of `aluRlc` and `aluRrc`. -/
theorem circularAccumulatorRotates : Obligations.CircularAccumulatorRotates := by
  unfold Obligations.CircularAccumulatorRotates
  intro s
  exact ⟨⟨rfl, rfl, rotateAcc_eq_next (aluRlc_eq s.a) s⟩, ⟨rfl, rfl, rotateAcc_eq_next (aluRrc_eq s.a) s⟩⟩

/-- Settles O32: RLA and RRA write the results of `aluRl` and `aluRr` at the configuration's parameter and the C before. -/
theorem accumulatorRotatesByParameter : Obligations.AccumulatorRotatesByParameter := by
  unfold Obligations.AccumulatorRotatesByParameter
  intro s
  exact ⟨⟨rfl, rfl, rotateAcc_eq_next (aluRl_eq s.cfg.rlCarryIn s.a (fbit s 4)) s⟩,
    ⟨rfl, rfl, rotateAcc_eq_next (aluRr_eq s.cfg.rlCarryIn s.a (fbit s 4)) s⟩⟩

/-! ## DAA -/

/-- The two corrections of R135 share no bit, so joining them is adding them. -/
theorem daaCorrections_or_eq_add : ∀ six sixty : Bool,
    ((if sixty then 0x60 else 0x00) ||| (if six then 0x06 else 0x00) : Byte) =
      BitVec.ofNat 8 (0x06 * six.toNat + 0x60 * sixty.toNat) := by decide

/-- DAA's result and flags, by the corrections that apply. -/
theorem aluDaa_eq {x : Byte} {nin hin cin six sixty : Bool}
    (hsix : six = (hin || (!nin && decide (x.toNat % 16 > 9))))
    (hsixty : sixty = (cin || (!nin && decide (x.toNat > 0x99)))) :
    ∃ r : Byte, r = (if nin then x - BitVec.ofNat 8 (0x06 * six.toNat + 0x60 * sixty.toNat)
        else x + BitVec.ofNat 8 (0x06 * six.toNat + 0x60 * sixty.toNat)) ∧
      aluDaa x nin hin cin = (r, flagByte (r == 0) nin false sixty) := by
  refine ⟨_, rfl, ?_⟩
  simp only [aluDaa, nib_eq_mod, packF_eq_flagByte, ← hsix, ← hsixty, daaCorrections_or_eq_add]

/-- Settles O33: DAA writes the result and the flags of `aluDaa` at the N, H and C before. -/
theorem decimalAdjust : Obligations.DecimalAdjust := by
  unfold Obligations.DecimalAdjust
  intro s six sixty hsix hsixty
  obtain ⟨r, hr, hdaa⟩ := aluDaa_eq hsix hsixty
  exact ⟨rfl, rfl, r, hr, rotateAcc_eq_next hdaa s⟩

/-! ## CPL, SCF and CCF -/

theorem aluCpl_eq (x : Byte) (zin cin : Bool) : aluCpl x zin cin = (~~~x, flagByte zin true true cin) := by
  rw [aluCpl, packF_eq_flagByte]

/-- Settles O34: CPL writes the results of `aluCpl`; SCF and CCF write F alone, with the Z before. -/
theorem complementAndCarryFlag : Obligations.ComplementAndCarryFlag := by
  unfold Obligations.ComplementAndCarryFlag
  intro s
  exact ⟨⟨rfl, rfl, rotateAcc_eq_next (aluCpl_eq s.a (fbit s 7) (fbit s 4)) s⟩,
    ⟨rfl, rfl, setFlags_packF_eq_next (fbit s 7) false false true s⟩,
    ⟨rfl, rfl, setFlags_packF_eq_next (fbit s 7) false false (!fbit s 4) s⟩⟩

end Sys2Proof.Machine
end

section
/-! 8-bit loads and stores (44_load8.md R190 to R208): the one register a load writes, the one bus store of a store, and the
step of HL that follows each in the (HL+) and (HL-) forms. -/

open Sys2Proof.Statements

namespace Sys2Proof.Machine

/-- The high page is the page whose high byte is 0xFF, so adding the zero-extended byte places it below (R201 to R204). -/
theorem highPage_eq_append (n : Byte) : highPage n = 0xFF#8 ++ n := by
  apply BitVec.eq_of_toNat_eq
  have hn : n.toNat < 2 ^ 8 := n.isLt
  rw [BitVec.toNat_append, ← Nat.shiftLeft_add_eq_or_of_lt hn]
  simp only [highPage, zext16, BitVec.toNat_add, BitVec.toNat_setWidth, BitVec.reduceToNat, Nat.reduceShiftLeft]
  omega

/-! ## Bytes and costs of the register forms -/

/-- The opcode of LD r,r' is its two register fields (30_encoding.md R73). -/
theorem encode_ldRegReg (r q : Reg8) : encode (.ldRegReg r q) = [0b01#2 ++ r.code ++ q.code] := by
  cases r <;> cases q <;> rfl

theorem cycleCost_ldRegReg (r q : Reg8) (s : State) : cycleCost (.ldRegReg r q) s = some 4 := by
  cases r <;> cases q <;> rfl

theorem encode_ldRegImm (r : Reg8) (n : Byte) : encode (.ldRegImm r n) = [0b00#2 ++ r.code ++ 0b110#3, n] := by
  cases r <;> rfl

theorem cycleCost_ldRegImm (r : Reg8) (n : Byte) (s : State) : cycleCost (.ldRegImm r n) s = some 8 := by
  cases r <;> rfl

theorem encode_ldRegHL (r : Reg8) : encode (.ldRegHL r) = [0b01#2 ++ r.code ++ 0b110#3] := by
  cases r <;> rfl

theorem cycleCost_ldRegHL (r : Reg8) (s : State) : cycleCost (.ldRegHL r) s = some 8 := by
  cases r <;> rfl

theorem encode_ldHLReg (r : Reg8) : encode (.ldHLReg r) = [0b01110#5 ++ r.code] := by
  cases r <;> rfl

theorem cycleCost_ldHLReg (r : Reg8) (s : State) : cycleCost (.ldHLReg r) s = some 8 := by
  cases r <;> rfl

/-! ## Loads -/

/-- Settles O35: each form is `loadReg`, with the address and the source taken from the state before. -/
theorem loadRegister : Obligations.LoadRegister := by
  unfold Obligations.LoadRegister
  intro s r q n
  exact ⟨⟨encode_ldRegReg r q, cycleCost_ldRegReg r q s, exec_ldRegReg s r q⟩,
    ⟨encode_ldRegImm r n, cycleCost_ldRegImm r n s, exec_ldRegImm s r n⟩,
    ⟨encode_ldRegHL r, cycleCost_ldRegHL r s, exec_ldRegHL s r⟩, fun v x => State.reg_setReg s r x v⟩

/-- An instruction that loads A from `addr`, whatever expression of the model gives the address, writes A alone. -/
theorem exec_eq_next_of_loadReg_a {i : Instr} {s : State} {addr addr' : Word}
    (hexec : exec i s = loadReg .a (s.mem.read addr') s) (haddr : addr' = addr) :
    exec i s = .next { s with a := s.mem.read addr } := by
  rw [hexec, haddr]
  rfl

/-- Settles O36: five forms are `loadReg` of A, and the two stepping forms are `loadAccStep`. -/
theorem loadAccumulator : Obligations.LoadAccumulator := by
  unfold Obligations.LoadAccumulator
  intro s n nn
  exact ⟨⟨rfl, rfl, exec_eq_next_of_loadReg_a rfl rfl⟩,
    ⟨rfl, rfl, exec_eq_next_of_loadReg_a rfl rfl⟩,
    ⟨rfl, rfl, exec_eq_next_of_loadReg_a rfl rfl⟩,
    ⟨rfl, rfl, exec_eq_next_of_loadReg_a rfl (highPage_eq_append n)⟩,
    ⟨rfl, rfl, exec_eq_next_of_loadReg_a rfl (highPage_eq_append s.c)⟩,
    ⟨rfl, rfl, rfl⟩, ⟨rfl, rfl, rfl⟩⟩

/-! ## Stores -/

/-- An instruction that is one bus store at `addr`, whatever expression of the model gives the address, and nothing after it
stores its byte as the statements say. -/
theorem storesByte_of_exec_eq_storeByte {i : Instr} {s : State} {addr addr' : Word} {v : Byte} (hwf : s.mem.wf = true)
    (hexec : exec i s = storeByte addr' v s) (haddr : addr' = addr) : StoresByte i s addr v id := by
  subst haddr
  exact storesByte_of_exec_eq_store hwf hexec

/-- Settles O37: both forms are one bus store at HL. -/
theorem storeAtHL : Obligations.StoreAtHL := by
  unfold Obligations.StoreAtHL
  intro s r n hwf
  exact ⟨⟨encode_ldHLReg r, cycleCost_ldHLReg r s, storesByte_of_exec_eq_storeByte hwf (exec_ldHLReg s r) rfl⟩,
    ⟨rfl, rfl, storesByte_of_exec_eq_storeByte hwf rfl rfl⟩⟩

/-- Settles O38: each form is one bus store of A at its address. -/
theorem storeAccumulator : Obligations.StoreAccumulator := by
  unfold Obligations.StoreAccumulator
  intro s n nn hwf
  exact ⟨⟨rfl, rfl, storesByte_of_exec_eq_storeByte hwf rfl rfl⟩,
    ⟨rfl, rfl, storesByte_of_exec_eq_storeByte hwf rfl rfl⟩,
    ⟨rfl, rfl, storesByte_of_exec_eq_storeByte hwf rfl rfl⟩,
    ⟨rfl, rfl, storesByte_of_exec_eq_storeByte hwf rfl (highPage_eq_append n)⟩,
    ⟨rfl, rfl, storesByte_of_exec_eq_storeByte hwf rfl (highPage_eq_append s.c)⟩⟩

/-- Settles O39: each form is one bus store of A at HL whose rest is the step of HL, so a refused store leaves HL. -/
theorem storeAccumulatorSteppingHL : Obligations.StoreAccumulatorSteppingHL := by
  unfold Obligations.StoreAccumulatorSteppingHL
  rintro s up down hwf rfl rfl
  exact ⟨⟨rfl, rfl, storesByte_of_exec_eq_store hwf rfl⟩, ⟨rfl, rfl, storesByte_of_exec_eq_store hwf rfl⟩⟩

end Sys2Proof.Machine
end

section
/-! 16-bit loads and the stack (45_load16_stack.md R220 to R225), with the 16-bit steps and ADD SP,e (46_arith16.md R231 to
R233): the pair a load writes, the two bus stores of LD (nn),SP and of a push, the pair a pop reads, and `sp` plus a signed
byte. -/

open Sys2Proof.Statements

namespace Sys2Proof.Machine

/-! ## Bytes and costs of the pair forms -/

/-- The opcodes of the pair forms are their `dd` or `qq` field in a fixed frame (30_encoding.md R74, R76). -/
theorem encode_ldPairImm (p : PairSP) (nn : Word) :
    encode (.ldPairImm p nn) = [0b00#2 ++ p.code ++ 0b0001#4, loByte nn, hiByte nn] := by
  cases p <;> rfl

theorem cycleCost_ldPairImm (p : PairSP) (nn : Word) (s : State) : cycleCost (.ldPairImm p nn) s = some 12 := by
  cases p <;> rfl

theorem encode_incPair (p : PairSP) : encode (.incPair p) = [0b00#2 ++ p.code ++ 0b0011#4] := by
  cases p <;> rfl

theorem cycleCost_incPair (p : PairSP) (s : State) : cycleCost (.incPair p) s = some 8 := by
  cases p <;> rfl

theorem encode_decPair (p : PairSP) : encode (.decPair p) = [0b00#2 ++ p.code ++ 0b1011#4] := by
  cases p <;> rfl

theorem cycleCost_decPair (p : PairSP) (s : State) : cycleCost (.decPair p) s = some 8 := by
  cases p <;> rfl

theorem encode_push (p : PairAF) : encode (.push p) = [0b11#2 ++ p.code ++ 0b0101#4] := by
  cases p <;> rfl

theorem cycleCost_push (p : PairAF) (s : State) : cycleCost (.push p) s = some 16 := by
  cases p <;> rfl

theorem encode_pop (p : PairAF) : encode (.pop p) = [0b11#2 ++ p.code ++ 0b0001#4] := by
  cases p <;> rfl

theorem cycleCost_pop (p : PairAF) (s : State) : cycleCost (.pop p) s = some 12 := by
  cases p <;> rfl

/-! ## Loads and steps of a pair -/

/-- Settles O40: a load is `loadPair` and a step is `putPair`, both of which are `setPair`. -/
theorem pairLoadsAndSteps : Obligations.PairLoadsAndSteps := by
  unfold Obligations.PairLoadsAndSteps
  intro s p nn
  exact ⟨⟨encode_ldPairImm p nn, cycleCost_ldPairImm p nn s, exec_ldPairImm s p nn⟩,
    ⟨encode_incPair p, cycleCost_incPair p s, exec_incPair s p⟩,
    ⟨encode_decPair p, cycleCost_decPair p s, exec_decPair s p⟩,
    ⟨rfl, rfl, rfl⟩, ⟨rfl, rfl, rfl, rfl⟩⟩

/-! ## Two stores -/

/-- What every address of a canonical memory reads as after a write. -/
theorem Memory.read_write {m : Memory} (hwf : m.wf = true) (addr : Word) (v : Byte) (x : Word) :
    (m.write addr v).read x = if x = addr then v else m.read x := by
  split
  next hx => rw [hx, Memory.read_write_same hwf]
  next hx => exact Memory.read_write_of_ne hx m v

/-- An accepted store goes on with a canonical memory, which reads as the statements say (20_memory.md R52, R53). -/
theorem store_of_accepted {addr : Word} {v : Byte} {s : State} {rest : State → Result} (hwf : s.mem.wf = true)
    (haccepted : accepted s addr) :
    ∃ m, store addr v s rest = rest (s.setMem m) ∧ m.wf = true ∧ ∀ x, m.read x = afterStore s addr v x := by
  cases hw : writable s.cfg addr with
  | true =>
    refine ⟨s.mem.write addr v, store_of_writable hw, Memory.wf_write hwf addr v, fun x => ?_⟩
    simp only [afterStore, Memory.read_write hwf, hw, and_true]
  | false =>
    have hp : s.cfg.roWritePolicy = .ignore := haccepted.resolve_left (by simp [hw])
    exact ⟨s.mem, store_of_ignore hw hp, hwf, fun x => by simp [hw]⟩

/-- An instruction that is a store and then, from any memory the first one leaves, a store and an update, stores its two
bytes as the statements say; `sp₁` and `sp₂` are the stack pointers the two stores are made with. -/
theorem storesTwice_of_exec_eq_store {i : Instr} {s : State} {sp₁ sp₂ addr addr' : Word} {v w : Byte}
    {rest : State → Result} {after : State → State} (hwf : s.mem.wf = true)
    (hexec : exec i s = store addr v (s.setSP sp₁) rest)
    (hrest : ∀ m, rest ((s.setSP sp₁).setMem m) = store addr' w ((s.setSP sp₂).setMem m) fun t => .next (after t)) :
    StoresTwice i s (·.setSP sp₁) addr v (·.setSP sp₂) addr' w fun t => after (t.setSP sp₂) := by
  have hgoesOn (hfirst : accepted s addr) : ∃ m,
      exec i s = store addr' w ((s.setSP sp₂).setMem m) (fun t => .next (after t)) ∧ m.wf = true ∧
        ∀ x, m.read x = afterStore s addr v x := by
    obtain ⟨m, hstore, hm, hread⟩ := store_of_accepted (s := s.setSP sp₁) hwf hfirst
    exact ⟨m, (hexec.trans hstore).trans (hrest m), hm, hread⟩
  refine ⟨fun hfirst hsecond => ?_, fun ⟨hw, hp⟩ => hexec.trans (store_of_fault hw hp), fun hfirst ⟨hw, hp⟩ => ?_⟩
  · obtain ⟨m, hstore, hm, hread⟩ := hgoesOn hfirst
    obtain ⟨m', hstore', hm', hread'⟩ := store_of_accepted (s := (s.setSP sp₂).setMem m) hm hsecond
    refine ⟨m', hstore.trans hstore', hm', fun x => (hread' x).trans ?_⟩
    simp only [afterStores, afterStore, State.setMem_mem, State.setMem_cfg, State.setSP_cfg, hread]
  · obtain ⟨m, hstore, hm, hread⟩ := hgoesOn hfirst
    exact ⟨m, hstore.trans (store_of_fault hw hp), hm, hread⟩

/-- Settles O41: the two stores leave `sp` as it is. -/
theorem storeStackPointer : Obligations.StoreStackPointer := by
  unfold Obligations.StoreStackPointer
  intro s nn hwf
  exact ⟨rfl, rfl, storesTwice_of_exec_eq_store (sp₁ := s.sp) (sp₂ := s.sp) (after := id)
    (rest := fun t => store (nn + 1) (hiByte s.sp) t .next) hwf rfl fun _ => rfl⟩

/-- An instruction that is a `push16` and then an update pushes its word as the statements say. -/
theorem pushes_of_exec_eq_push16 {i : Instr} {s : State} {v : Word} {after : State → State} (hwf : s.mem.wf = true)
    (hexec : exec i s = push16 v s fun t => .next (after t)) : Pushes i s v after := by
  have hsp : s.sp - 1 - 1 = s.sp - 2 := by bv_omega
  refine storesTwice_of_exec_eq_store hwf hexec fun m => ?_
  simp only [State.setMem_sp, State.setSP_sp, hsp]
  rfl

/-- Settles O42: PUSH is a `push16` of the pair's value. -/
theorem pushStoresThePair : Obligations.PushStoresThePair := by
  unfold Obligations.PushStoresThePair
  intro s p hwf
  refine ⟨encode_push p, cycleCost_push p s, ?_⟩
  have hpush : Pushes (.push p) s (s.stackPair p) id := pushes_of_exec_eq_push16 hwf (exec_push s p)
  cases p <;> exact hpush

/-! ## POP -/

/-- Settles O43: the popped word is the two bytes joined, and writing a pair takes it apart again. -/
theorem popLoadsThePair : Obligations.PopLoadsThePair := by
  unfold Obligations.PopLoadsThePair
  rintro s p hi lo rfl rfl
  refine ⟨encode_pop p, cycleCost_pop p s, ?_⟩
  rw [exec_pop, popPair, popValue]
  cases p <;>
    simp only [State.setStackPair, State.setBC, State.setDE, State.setHL, State.setAF, hiByte_join, loByte_join] <;> rfl

/-! ## The stack pointer plus a signed byte -/

/-- R141 in exact integers: the sum is signed, the flags are those of the unsigned low-byte addition. -/
theorem addSPe_eq (sp : Word) (e : Byte) : addSPe sp e =
    (sp + BitVec.ofInt 16 e.toInt, flagByte false false (decide (sp.toNat % 16 + e.toNat % 16 > 15))
      (decide (sp.toNat % 256 + e.toNat > 255))) := by
  have hnib : (sp &&& 0x0F).toNat = sp.toNat % 16 :=
    (BitVec.toNat_and sp 0x0F).trans (Nat.and_two_pow_sub_one_eq_mod sp.toNat 4)
  have hlow : (sp &&& 0xFF).toNat = sp.toNat % 256 :=
    (BitVec.toNat_and sp 0xFF).trans (Nat.and_two_pow_sub_one_eq_mod sp.toNat 8)
  rw [addSPe, packF_eq_flagByte, nib_eq_mod, hnib, hlow]
  rfl

theorem loadHLSPe_eq_next {e fl : Byte} {sum : Word} {s : State} (h : addSPe s.sp e = (sum, fl)) :
    loadHLSPe e s = .next { s with h := hiByte sum, l := loByte sum, f := fl } := by
  rw [loadHLSPe, h]
  rfl

theorem addSP_eq_next {e fl : Byte} {sum : Word} {s : State} (h : addSPe s.sp e = (sum, fl)) :
    addSP e s = .next { s with sp := sum, f := fl } := by
  rw [addSP, h]
  rfl

/-- Settles O44: both forms write the two results of `addSPe`. -/
theorem stackPointerPlusOffset : Obligations.StackPointerPlusOffset := by
  unfold Obligations.StackPointerPlusOffset
  rintro s e fl sum rfl rfl
  exact ⟨⟨rfl, rfl, loadHLSPe_eq_next (addSPe_eq s.sp e)⟩, ⟨rfl, rfl, addSP_eq_next (addSPe_eq s.sp e)⟩⟩

end Sys2Proof.Machine
end

section
/-! 16-bit arithmetic: ADD HL,rr (46_arith16.md R230), the ALU function of 41_alu.md R140 in exact integers and the write of
HL and F that ends it. -/

open Sys2Proof.Statements

namespace Sys2Proof.Machine

/-- The opcode of ADD HL,rr is its `dd` field in a fixed frame (30_encoding.md R74). -/
theorem encode_addHLPair (p : PairSP) : encode (.addHLPair p) = [0b00#2 ++ p.code ++ 0b1001#4] := by
  cases p <;> rfl

theorem cycleCost_addHLPair (p : PairSP) (s : State) : cycleCost (.addHLPair p) s = some 8 := by
  cases p <;> rfl

/-- R140 in exact integers: bit 11 carries when the low twelve bits overflow, bit 15 when the words do. -/
theorem add16HL_eq (hl rr : Word) (zin : Bool) : add16HL hl rr zin =
    (hl + rr, flagByte zin false (decide (hl.toNat % 4096 + rr.toNat % 4096 > 4095))
      (decide (hl.toNat + rr.toNat > 65535))) := by
  have hlow (v : Word) : (v &&& 0x0FFF).toNat = v.toNat % 4096 :=
    (BitVec.toNat_and v 0x0FFF).trans (Nat.and_two_pow_sub_one_eq_mod v.toNat 12)
  rw [add16HL, packF_eq_flagByte, hlow, hlow, BitVec.add_def]

theorem addHL_eq_next {v sum : Word} {fl : Byte} {s : State} (h : add16HL s.hl v (flagZ s.f) = (sum, fl)) :
    addHL v s = .next { s with h := hiByte sum, l := loByte sum, f := fl } := by
  rw [addHL, h]
  rfl

/-- Settles O45: each form is `addHL` of its pair, which writes the two results of `add16HL` at the Z before. -/
theorem addPairToHL : Obligations.AddPairToHL := by
  unfold Obligations.AddPairToHL
  rintro s p hl sum rfl rfl
  exact ⟨encode_addHLPair p, cycleCost_addHLPair p s,
    (exec_addHLPair s p).trans (addHL_eq_next (add16HL_eq s.hl (s.pair p) (flagZ s.f)))⟩

end Sys2Proof.Machine
end

section
/-! Control transfer (47_control.md R240 to R250): the bytes and costs of the conditional forms and RST, the write of `pc`
that ends every jump, the push of a call and the pop of a return. -/

open Sys2Proof.Statements

namespace Sys2Proof.Machine

/-! ## Conditions, bytes and costs -/

/-- The model reads a condition off F as 30_encoding.md R75 says. -/
theorem condHolds_eq_taken (cc : Cond) (s : State) : condHolds cc s.f = taken cc s := by
  cases cc <;> simp [condHolds, taken, flagZ, flagC]

/-- The opcodes of the conditional forms are their `cc` field in a fixed frame (30_encoding.md R75). -/
theorem encode_jpIf (cc : Cond) (nn : Word) :
    encode (.jpIf cc nn) = [0b110#3 ++ cc.code ++ 0b010#3, loByte nn, hiByte nn] := by
  cases cc <;> rfl

theorem encode_jrIf (cc : Cond) (e : Byte) : encode (.jrIf cc e) = [0b001#3 ++ cc.code ++ 0b000#3, e] := by
  cases cc <;> rfl

theorem encode_callIf (cc : Cond) (nn : Word) :
    encode (.callIf cc nn) = [0b110#3 ++ cc.code ++ 0b100#3, loByte nn, hiByte nn] := by
  cases cc <;> rfl

theorem encode_retIf (cc : Cond) : encode (.retIf cc) = [0b110#3 ++ cc.code ++ 0b000#3] := by
  cases cc <;> rfl

theorem encode_rst (t : Index3) : encode (.rst t) = [0b11#2 ++ t.code ++ 0b111#3] := by
  cases t <;> rfl

/-- The cost of a conditional form is the table's where the condition holds and the lower one where not (R106). -/
theorem cycleCost_jpIf (cc : Cond) (nn : Word) (s : State) :
    cycleCost (.jpIf cc nn) s = some (if taken cc s then 16 else 12) := by
  rw [apply_ite some, ← condHolds_eq_taken]
  cases cc <;> rfl

theorem cycleCost_jrIf (cc : Cond) (e : Byte) (s : State) :
    cycleCost (.jrIf cc e) s = some (if taken cc s then 12 else 8) := by
  rw [apply_ite some, ← condHolds_eq_taken]
  cases cc <;> rfl

theorem cycleCost_callIf (cc : Cond) (nn : Word) (s : State) :
    cycleCost (.callIf cc nn) s = some (if taken cc s then 24 else 12) := by
  rw [apply_ite some, ← condHolds_eq_taken]
  cases cc <;> rfl

theorem cycleCost_retIf (cc : Cond) (s : State) :
    cycleCost (.retIf cc) s = some (if taken cc s then 20 else 8) := by
  rw [apply_ite some, ← condHolds_eq_taken]
  cases cc <;> rfl

theorem cycleCost_rst (t : Index3) (s : State) : cycleCost (.rst t) s = some 16 := by
  cases t <;> rfl

/-! ## Jumps -/

/-- A conditional jump on the model's condition writes `pc` alone, exactly when the condition of R75 holds. -/
theorem jumpIf_condHolds (cc : Cond) (target : Word) (s : State) :
    jumpIf (condHolds cc s.f) target s = .next (if taken cc s then { s with pc := target } else s) := by
  rw [jumpIf_eq, condHolds_eq_taken]
  rfl

/-- Settles O46: JP nn and JP HL are `jumpTo`, and JP cc,nn is `jumpIf`, of their targets. -/
theorem absoluteJumps : Obligations.AbsoluteJumps := by
  unfold Obligations.AbsoluteJumps
  intro s cc nn
  exact ⟨⟨rfl, rfl, rfl⟩,
    ⟨encode_jpIf cc nn, cycleCost_jpIf cc nn s, (exec_jpIf s cc nn).trans (jumpIf_condHolds cc nn s)⟩,
    ⟨rfl, rfl, rfl⟩⟩

/-- Settles O47: both forms jump to `pc` plus the sign-extended displacement. -/
theorem relativeJumps : Obligations.RelativeJumps := by
  unfold Obligations.RelativeJumps
  intro s cc e
  exact ⟨⟨rfl, rfl, rfl⟩,
    ⟨encode_jrIf cc e, cycleCost_jrIf cc e s, (exec_jrIf s cc e).trans (jumpIf_condHolds cc (s.pc + sext16 e) s)⟩⟩

/-! ## Calls and returns -/

/-- An instruction that is a `callTo` of its target, whatever expression of the model gives the target, pushes `pc` and then
writes it (R245). -/
theorem pushes_of_exec_eq_callTo {i : Instr} {s : State} {target target' : Word} (hwf : s.mem.wf = true)
    (hexec : exec i s = callTo target' s) (htarget : target' = target) :
    Pushes i s s.pc fun u => { u with pc := target } := by
  subst htarget
  exact pushes_of_exec_eq_push16 hwf hexec

theorem exec_callIf_of_taken {cc : Cond} {s : State} (h : taken cc s = true) (nn : Word) :
    exec (.callIf cc nn) s = callTo nn s := by
  rw [exec_callIf, condHolds_eq_taken, h]
  rfl

theorem exec_callIf_of_not_taken {cc : Cond} {s : State} (h : taken cc s = false) (nn : Word) :
    exec (.callIf cc nn) s = .next s := by
  rw [exec_callIf, condHolds_eq_taken, h]
  rfl

/-- Settles O48: CALL nn, a taken CALL cc,nn and RST are `callTo` of their targets. -/
theorem callsAndRestarts : Obligations.CallsAndRestarts := by
  unfold Obligations.CallsAndRestarts
  intro s cc nn t hwf
  have htarget : BitVec.ofNat 16 (8 * t.val) = BitVec.ofNat 16 (t.val * 8) := by rw [Nat.mul_comm]
  exact ⟨⟨rfl, rfl, pushes_of_exec_eq_callTo hwf rfl rfl⟩,
    ⟨encode_callIf cc nn, cycleCost_callIf cc nn s,
      fun htaken => pushes_of_exec_eq_callTo hwf (exec_callIf_of_taken htaken nn) rfl,
      fun hnot => exec_callIf_of_not_taken hnot nn⟩,
    ⟨encode_rst t, cycleCost_rst t s, pushes_of_exec_eq_callTo hwf (exec_rst s t) htarget⟩⟩

/-- A conditional return on the model's condition writes `pc` and `sp` alone, exactly when the condition of R75 holds. -/
theorem returnIf_condHolds (cc : Cond) (s : State) : returnIf (condHolds cc s.f) s =
    .next (if taken cc s then { s with pc := s.mem.read (s.sp + 1) ++ s.mem.read s.sp, sp := s.sp + 2 } else s) := by
  rw [returnIf_eq, condHolds_eq_taken]
  rfl

/-- Settles O49: RET is a taken return, RET cc a conditional one, and RETI a taken one after the write of `ime`. -/
theorem returns : Obligations.Returns := by
  unfold Obligations.Returns
  rintro s cc back rfl
  exact ⟨⟨rfl, rfl, returnIf_eq true s⟩,
    ⟨encode_retIf cc, cycleCost_retIf cc s, (exec_retIf s cc).trans (returnIf_condHolds cc s)⟩,
    ⟨rfl, rfl, returnIf_eq true (s.setIme true)⟩⟩

end Sys2Proof.Machine
end

section
/-! System and control (48_system.md R260 to R264): each instruction writes the run state, an interrupt bit, or nothing. -/

namespace Sys2Proof.Machine

/-- Settles O52: NOP answers its state; HALT and STOP write the run state. -/
theorem nopHaltStop : Obligations.NopHaltStop := by
  unfold Obligations.NopHaltStop
  intro s x
  exact ⟨⟨rfl, rfl, rfl⟩, ⟨rfl, rfl, rfl⟩, ⟨rfl, rfl, rfl⟩⟩

/-- Settles O53: DI writes both interrupt bits, EI the pending one. -/
theorem interruptEnableBits : Obligations.InterruptEnableBits := by
  unfold Obligations.InterruptEnableBits
  intro s
  exact ⟨⟨rfl, rfl, rfl⟩, ⟨rfl, rfl, rfl⟩⟩

end Sys2Proof.Machine
end

section
/-! CB-prefixed instructions (49_cb_prefix.md R270 to R292): the fields of a sub-opcode, the entry and the dispatch they
select, the rotates and shifts in the terms of the statements, and the bit that BIT reads and RES and SET write. -/

open Sys2Proof.Statements

namespace Sys2Proof.Machine

/-! ## The fields of a sub-opcode -/

section Fields

variable (g : BitVec 2) (y z : BitVec 3)

/-- The fields `g`, `y` and `z` of a sub-opcode are read back from it (30_encoding.md R80). -/
theorem field_g : (g ++ y ++ z).extractLsb' 6 2 = g := by
  rw [BitVec.append_assoc]
  exact BitVec.extractLsb'_append_eq_left

theorem field_y : (g ++ y ++ z).extractLsb' 3 3 = y :=
  (BitVec.extractLsb'_append_eq_of_le (by decide)).trans BitVec.extractLsb'_append_eq_right

theorem field_z : (g ++ y ++ z).extractLsb' 0 3 = z := BitVec.extractLsb'_append_eq_right

end Fields

/-- Every sub-opcode is its three fields side by side. -/
theorem byte_by_fields {P : Byte → Prop} (h : ∀ (g : BitVec 2) (y z : BitVec 3), P (g ++ y ++ z))
    (sub : Byte) : P sub := by
  have hgy : sub.extractLsb' 6 2 ++ sub.extractLsb' 3 3 = sub.extractLsb' 3 5 :=
    BitVec.extractLsb'_append_extractLsb'_eq_extractLsb' rfl
  have hgyz : sub.extractLsb' 3 5 ++ sub.extractLsb' 0 3 = sub :=
    (BitVec.extractLsb'_append_extractLsb'_eq_extractLsb' rfl).trans BitVec.extractLsb'_eq_self
  have hfields := h (sub.extractLsb' 6 2) (sub.extractLsb' 3 3) (sub.extractLsb' 0 3)
  rwa [hgy, hgyz] at hfields

/-- A field names the operand, the operation or the bit number that has it as its code (R73, R80). -/
theorem operandOf_code : ∀ z : BitVec 3, (operandOf z).code = z := by decide
theorem shiftOpOf_code : ∀ y : BitVec 3, (shiftOpOf y).code = y := by decide
theorem indexOf_code : ∀ y : BitVec 3, (indexOf y).code = y := by decide

/-! ## The entry of a sub-opcode -/

theorem cbEntry_shift (op : ShiftOp) (o : Operand) : cbEntry (0b00#2 ++ op.code ++ o.code) = .shift op o := by
  cases op <;> cases o using Operand.byCode <;> rfl

theorem cbEntry_bitOp (b : Index3) (o : Operand) : cbEntry (0b01#2 ++ b.code ++ o.code) = .bitOp b o := by
  cases b <;> cases o using Operand.byCode <;> rfl

theorem cbEntry_resOp (b : Index3) (o : Operand) : cbEntry (0b10#2 ++ b.code ++ o.code) = .resOp b o := by
  cases b <;> cases o using Operand.byCode <;> rfl

theorem cbEntry_setOp (b : Index3) (o : Operand) : cbEntry (0b11#2 ++ b.code ++ o.code) = .setOp b o := by
  cases b <;> cases o using Operand.byCode <;> rfl

/-- The bytes of an instruction of the CB table are the prefix and its sub-opcode, and its cost is the sub-opcode's. -/
theorem encode_of_cbEntry {sub : Byte} {i : Instr} (h : cbEntry sub = i) : encode i = [0xCB, sub] :=
  h ▸ (cbEntry_agrees sub).1

theorem cycleCost_of_cbEntry {sub : Byte} {i : Instr} (h : cbEntry sub = i) (s : State) :
    cycleCost i s = some (cbCost sub) := by
  rw [cycleCost, encode_of_cbEntry h]
  rfl

/-- The cost by the fields: 8 on a register; on (HL) 12 for BIT and 16 for the others. -/
theorem cbCost_fields (g : BitVec 2) (y z : BitVec 3) :
    cbCost (g ++ y ++ z) = if z = 6 then (if g = 1 then 12 else 16) else 8 := by
  rw [cbCost, field_g, field_z]

/-- On a register the cost is 8. -/
theorem cycleCost_of_cbEntry_reg {g : BitVec 2} {y : BitVec 3} {r : Reg8} {i : Instr}
    (h : cbEntry (g ++ y ++ r.code) = i) (s : State) : cycleCost i s = some 8 := by
  have hr : r.code ≠ 6 := by cases r <;> decide
  rw [cycleCost_of_cbEntry h, cbCost_fields, if_neg hr]

theorem cycleCost_of_cbEntry_atHL {g : BitVec 2} {y : BitVec 3} {i : Instr}
    (h : cbEntry (g ++ y ++ Operand.atHL.code) = i) (s : State) : cycleCost i s = some (if g = 1 then 12 else 16) := by
  rw [cycleCost_of_cbEntry h, cbCost_fields]
  rfl

/-! ## The dispatch -/

/-- BIT reads its operand, whichever it is. -/
theorem exec_bitOp (s : State) (b : Index3) (o : Operand) : exec (.bitOp b o) s = bitTest b (s.operand o) s := by
  cases o with
  | reg r => exact exec_bitReg s b r
  | atHL => exact exec_bitMem s b

/-- The dispatch by the fields is the entry's own operation (R270). -/
theorem cbOperation_eq_exec_cbEntry (s : State) (sub : Byte) : cbOperation sub s = exec (cbEntry sub) s := by
  induction sub using byte_by_fields with
  | h g y z =>
    simp only [cbOperation, field_g, field_y, field_z]
    have hgroup : g = 0b00#2 ∨ g = 0b01#2 ∨ g = 0b10#2 ∨ g = 0b11#2 := by decide +revert
    rcases hgroup with rfl | rfl | rfl | rfl
    · have hentry : cbEntry (0b00#2 ++ y ++ z) = .shift (shiftOpOf y) (operandOf z) := by
        rw [← cbEntry_shift, shiftOpOf_code, operandOf_code]
      rw [hentry]
      cases operandOf z with
      | reg r => exact (exec_shiftReg s _ r).symm
      | atHL => exact (exec_shiftMem s _).symm
    · have hentry : cbEntry (0b01#2 ++ y ++ z) = .bitOp (indexOf y) (operandOf z) := by
        rw [← cbEntry_bitOp, indexOf_code, operandOf_code]
      rw [hentry]
      exact (exec_bitOp s _ _).symm
    · have hentry : cbEntry (0b10#2 ++ y ++ z) = .resOp (indexOf y) (operandOf z) := by
        rw [← cbEntry_resOp, indexOf_code, operandOf_code]
      rw [hentry]
      cases operandOf z with
      | reg r => exact (exec_resReg s _ r).symm
      | atHL => exact (exec_resMem s _).symm
    · have hentry : cbEntry (0b11#2 ++ y ++ z) = .setOp (indexOf y) (operandOf z) := by
        rw [← cbEntry_setOp, indexOf_code, operandOf_code]
      rw [hentry]
      cases operandOf z with
      | reg r => exact (exec_setReg s _ r).symm
      | atHL => exact (exec_setMem s _).symm

/-- Every instruction has a next state from every state: a decoded one makes a series of writes, the prefix row runs a
decoded one, and a byte without an entry enters its fault. -/
theorem exec_eq_next (i : Instr) (s : State) : ∃ t, exec i s = .next t := by
  have hdecoded {j : Instr} (hj : j.WellFormed = true) : ∃ t, exec j s = .next t := by
    obtain ⟨t, ht⟩ := (exec_performs hj s).next_setInterrupts
    obtain ⟨x, y, hnext⟩ := ht s.ime s.eiPending
    exact ⟨_, hnext⟩
  cases hi : i.WellFormed with
  | true => exact hdecoded hi
  | false =>
    unfold Instr.WellFormed at hi
    split at hi
    · exact ⟨_, rfl⟩
    · next sub =>
      have hprefix : exec (.prefix_CB sub) s = exec (cbEntry sub) s := cbOperation_eq_exec_cbEntry s sub
      exact hprefix ▸ hdecoded (cbEntry_agrees sub).2
    · exact absurd hi.symm Bool.false_ne_true

/-- Settles O22: the entries of the CB table stand where their fields say, and the dispatch reads the same fields. -/
theorem cbDispatchByFields : Obligations.CbDispatchByFields := by
  unfold Obligations.CbDispatchByFields
  exact ⟨fun s sub => ⟨cbOperation_eq_exec_cbEntry s sub, exec_eq_next _ s⟩, cbEntry_shift,
    fun b o => ⟨cbEntry_bitOp b o, cbEntry_resOp b o, cbEntry_setOp b o⟩⟩

/-! ## Rotates and shifts -/

/-- The arithmetic shift keeps the sign bit beside the others moved down (R281). -/
theorem ushiftRight_or_sign : ∀ v : Byte, v >>> 1 ||| v &&& 0x80 = v.sshiftRight 1 := by decide

/-- The model's rotates and shifts are those of the statements. -/
theorem evalShift_eq {op : ShiftOp} {v res : Byte} {cin out : Bool} (h : (res, out) = shiftSpec op v cin) :
    evalShift op v cin = (res, flagByte (res == 0) false false out) := by
  have hspec : evalShift op v cin = ((shiftSpec op v cin).1, shiftF (shiftSpec op v cin).1 (shiftSpec op v cin).2) := by
    cases op with
    | rlc | rrc | rl | rr | sla | swap | srl => rfl
    | sra => rw [evalShift, ushiftRight_or_sign, shiftSpec]
  rw [hspec, ← h, shiftF, packF_eq_flagByte]

/-- Settles O54: each is `shiftReg`, which writes the register and then F. -/
theorem cbShiftsOfRegisters : Obligations.CbShiftsOfRegisters := by
  unfold Obligations.CbShiftsOfRegisters
  intro s op r
  have hentry := cbEntry_shift op (.reg r)
  refine ⟨encode_of_cbEntry hentry, cycleCost_of_cbEntry_reg hentry s, ?_⟩
  rw [exec_shiftReg, shiftReg, evalShift_eq rfl]
  rfl

/-- Settles O55: each is `shiftMem`, one bus store at HL and then the write of F. -/
theorem cbShiftsOfMemory : Obligations.CbShiftsOfMemory := by
  unfold Obligations.CbShiftsOfMemory
  intro s op res out hwf hspec
  have hentry := cbEntry_shift op .atHL
  have hshift : evalShift op (s.mem.read s.hl) (flagC s.f) = (res, flagByte (res == 0) false false out) :=
    evalShift_eq hspec
  refine ⟨encode_of_cbEntry hentry, cycleCost_of_cbEntry_atHL hentry s, storesByte_of_exec_eq_store hwf ?_⟩
  rw [exec_shiftMem, shiftMem, hshift]
  rfl

/-! ## Single bits -/

/-- Settles O56: BIT is `bitTest` of its operand, which writes F alone. -/
theorem cbBitTest : Obligations.CbBitTest := by
  unfold Obligations.CbBitTest
  intro s b o
  have hentry := cbEntry_bitOp b o
  refine ⟨encode_of_cbEntry hentry, ?_, ?_⟩
  · cases o with
    | reg r => exact cycleCost_of_cbEntry_reg hentry s
    | atHL => exact cycleCost_of_cbEntry_atHL hentry s
  · rw [exec_bitOp, bitTest, bitF, packF_eq_flagByte]
    rfl

/-- The mask `1 << b` has the bit of its number alone. -/
theorem getLsbD_one_shiftLeft (b : Index3) {k : Nat} (hk : k < 8) :
    ((1 : Byte) <<< b.val).getLsbD k = decide (k = b.val) := by
  have hmask : (1 : Byte) <<< b.val = BitVec.twoPow 8 b.val := (BitVec.twoPow_eq 8 b.val).symm
  rw [hmask, BitVec.getLsbD_twoPow]
  by_cases hkb : k = b.val
  · simp [← hkb, hk]
  · simp [hkb, Ne.symm hkb]

/-- RES clears its bit and SET sets it, and neither touches another (R289, R291). -/
theorem getLsbD_resBit (v : Byte) (b : Index3) (k : Nat) (hk : k < 8) :
    (resBit v b).getLsbD k = if k = b.val then false else v.getLsbD k := by
  rw [resBit, BitVec.getLsbD_and, BitVec.getLsbD_not, getLsbD_one_shiftLeft b hk]
  by_cases hkb : k = b.val <;> simp [hkb, hk]

theorem getLsbD_setBit (v : Byte) (b : Index3) (k : Nat) (hk : k < 8) :
    (setBit v b).getLsbD k = if k = b.val then true else v.getLsbD k := by
  rw [setBit, BitVec.getLsbD_or, getLsbD_one_shiftLeft b hk]
  by_cases hkb : k = b.val <;> simp [hkb]

/-- Settles O57: each is `loadBitReg` of the register's value with the one bit changed. -/
theorem cbResetAndSetRegister : Obligations.CbResetAndSetRegister := by
  unfold Obligations.CbResetAndSetRegister
  intro s b r
  have hres := cbEntry_resOp b (.reg r)
  have hset := cbEntry_setOp b (.reg r)
  exact ⟨⟨encode_of_cbEntry hres, cycleCost_of_cbEntry_reg hres s, _, exec_resReg s b r, getLsbD_resBit _ b⟩,
    ⟨encode_of_cbEntry hset, cycleCost_of_cbEntry_reg hset s, _, exec_setReg s b r, getLsbD_setBit _ b⟩⟩

/-- Settles O58: each is one bus store at HL of the byte there with the one bit changed. -/
theorem cbResetAndSetMemory : Obligations.CbResetAndSetMemory := by
  unfold Obligations.CbResetAndSetMemory
  intro s b hwf
  have hres := cbEntry_resOp b .atHL
  have hset := cbEntry_setOp b .atHL
  exact ⟨⟨encode_of_cbEntry hres, cycleCost_of_cbEntry_atHL hres s, _,
      storesByte_of_exec_eq_store hwf (exec_resMem s b), getLsbD_resBit _ b⟩,
    ⟨encode_of_cbEntry hset, cycleCost_of_cbEntry_atHL hset s, _,
      storesByte_of_exec_eq_store hwf (exec_setMem s b), getLsbD_setBit _ b⟩⟩

end Sys2Proof.Machine
end

section
/-! Faults and the end of a run (60_exceptions.md R301 to R315): what each instruction can do to memory and the run state,
said once, and from it which steps halt, which fault, and which leave memory alone. -/

open Sys2Proof.Statements

namespace Sys2Proof.Machine

/-! ## Stores -/

/-- The meaning answers a next state that keeps the run state `run`, or one in which a store was refused. -/
def KeepsRunOrRefuses (run : RunState) (r : Result) : Prop :=
  ∃ t, r = .next t ∧ (t.run = run ∨ ∃ addr v, t.run = .faulted (.storageWrite addr v))

theorem keepsRunOrRefuses_next {run : RunState} {t : State} (h : t.run = run) : KeepsRunOrRefuses run (.next t) :=
  ⟨t, rfl, .inl h⟩

section Stores

variable {s : State}

theorem keepsRunOrRefuses_store {addr : Word} {v : Byte} {rest : State → Result}
    (hrest : ∀ t : State, t.run = s.run → KeepsRunOrRefuses s.run (rest t)) :
    KeepsRunOrRefuses s.run (store addr v s rest) :=
  store_elim (fun _ => hrest _ rfl) (fun _ _ => hrest s rfl) fun _ _ => ⟨_, rfl, .inr ⟨addr, v, rfl⟩⟩

/-- A store and then an update that leaves the run state. -/
theorem keepsRunOrRefuses_store_next {addr : Word} {v : Byte} {after : State → State}
    (hafter : ∀ t, (after t).run = t.run) : KeepsRunOrRefuses s.run (store addr v s fun t => .next (after t)) :=
  keepsRunOrRefuses_store fun t ht => keepsRunOrRefuses_next ((hafter t).trans ht)

theorem keepsRunOrRefuses_push16 {v : Word} {after : State → State} (hafter : ∀ t, (after t).run = t.run) :
    KeepsRunOrRefuses s.run (push16 v s fun t => .next (after t)) :=
  push16_elim (fun _ _ => keepsRunOrRefuses_next (hafter _)) (fun _ _ => ⟨_, rfl, .inr ⟨_, _, rfl⟩⟩)
    fun _ _ _ _ => ⟨_, rfl, .inr ⟨_, _, rfl⟩⟩

theorem keepsRunOrRefuses_storeByte (addr : Word) (v : Byte) : KeepsRunOrRefuses s.run (storeByte addr v s) :=
  keepsRunOrRefuses_store_next (after := id) fun _ => rfl

theorem keepsRunOrRefuses_storeAccStep (hl' : Word) : KeepsRunOrRefuses s.run (storeAccStep hl' s) :=
  keepsRunOrRefuses_store_next fun _ => rfl

theorem keepsRunOrRefuses_storeSP (nn : Word) : KeepsRunOrRefuses s.run (storeSP nn s) :=
  keepsRunOrRefuses_store fun _ ht => ht ▸ keepsRunOrRefuses_storeByte _ _

theorem keepsRunOrRefuses_incMem : KeepsRunOrRefuses s.run (incMem s) :=
  keepsRunOrRefuses_store_next fun _ => rfl

theorem keepsRunOrRefuses_decMem : KeepsRunOrRefuses s.run (decMem s) :=
  keepsRunOrRefuses_store_next fun _ => rfl

theorem keepsRunOrRefuses_shiftMem (op : ShiftOp) : KeepsRunOrRefuses s.run (shiftMem op s) :=
  keepsRunOrRefuses_store_next fun _ => rfl

theorem keepsRunOrRefuses_callTo (target : Word) : KeepsRunOrRefuses s.run (callTo target s) :=
  keepsRunOrRefuses_push16 fun _ => rfl

theorem keepsRunOrRefuses_callIf (taken : Bool) (target : Word) : KeepsRunOrRefuses s.run (callIf taken target s) := by
  cases taken with
  | false => exact keepsRunOrRefuses_next rfl
  | true => exact keepsRunOrRefuses_callTo target

theorem keepsRunOrRefuses_cbOperation (sub : Byte) : KeepsRunOrRefuses s.run (cbOperation sub s) := by
  unfold cbOperation
  dsimp only
  split
  · exact keepsRunOrRefuses_next (State.setReg_run ..)
  · exact keepsRunOrRefuses_shiftMem _
  · exact keepsRunOrRefuses_next rfl
  · exact keepsRunOrRefuses_next (State.setReg_run ..)
  · exact keepsRunOrRefuses_storeByte _ _
  · exact keepsRunOrRefuses_next (State.setReg_run ..)
  · exact keepsRunOrRefuses_storeByte _ _

end Stores

/-! ## Instructions -/

/-- What an instruction does to memory and the run state: nothing; a store, which may be refused; the halt; or the fault of
a byte without an entry. -/
inductive Effect (i : Instr) (s : State) : Prop
  | quiet {t : State} (hexec : exec i s = .next t) (hrun : t.run = s.run) (hmem : t.mem = s.mem)
  | stores (hstores : mayStore i = true) (h : KeepsRunOrRefuses s.run (exec i s))
  | halts (hi : i = .halt ∨ ∃ x, i = .stop x) (hexec : exec i s = .next (s.setRun .halted))
  | noEntry {op : Byte} (hi : i = .no_entry op)
      (hexec : exec i s = .next (s.setRun (.faulted (.unimplementedOpcode op (s.pc - 1)))))

/-- An instruction that is taken or not, and changes nothing where it is not. -/
theorem Effect.of_ite {i : Instr} {s t : State} {taken : Bool} (hexec : exec i s = .next (if taken then t else s))
    (hrun : t.run = s.run) (hmem : t.mem = s.mem) : Effect i s := by
  cases taken with
  | false => exact .quiet hexec rfl rfl
  | true => exact .quiet hexec hrun hmem

/-- Each shape of instruction has one of these effects; those that can store are the ones listed by `mayStore`. -/
theorem exec_effect (i : Instr) (s : State) : Effect i s := by
  cases i using Instr.byShape with
  | nop | di | ei => exact .quiet rfl rfl rfl
  | halt => exact .halts (.inl rfl) rfl
  | stop x => exact .halts (.inr ⟨x, rfl⟩) rfl
  | no_entry op => exact .noEntry rfl rfl
  | prefix_CB sub => exact .stores rfl (keepsRunOrRefuses_cbOperation sub)
  | rlca | rrca | rla | rra | daa | cpl | scf | ccf => exact .quiet rfl rfl rfl
  | ld_A_mBC | ld_A_mDE | ld_A_mnn | ldh_A_mn | ld_A_mC | ld_A_mHLi | ld_A_mHLd => exact .quiet rfl rfl rfl
  | ld_SP_HL | ld_HL_SPe | add_SP_e => exact .quiet rfl rfl rfl
  | jp_nn | jp_HL | jr_e => exact .quiet rfl rfl rfl
  | ret => exact .quiet (returnIf_eq true s) rfl rfl
  | reti => exact .quiet (returnIf_eq true (s.setIme true)) rfl rfl
  | ldRegReg r q => exact .quiet (exec_ldRegReg s r q) (State.setReg_run ..) (State.setReg_mem ..)
  | ldRegImm r n => exact .quiet (exec_ldRegImm s r n) (State.setReg_run ..) (State.setReg_mem ..)
  | ldRegHL r => exact .quiet (exec_ldRegHL s r) (State.setReg_run ..) (State.setReg_mem ..)
  | ldPairImm p nn => exact .quiet (exec_ldPairImm s p nn) (State.setPair_run ..) (State.setPair_mem ..)
  | incPair p => exact .quiet (exec_incPair s p) (State.setPair_run ..) (State.setPair_mem ..)
  | decPair p => exact .quiet (exec_decPair s p) (State.setPair_run ..) (State.setPair_mem ..)
  | addHLPair p => exact .quiet (exec_addHLPair s p) rfl rfl
  | pop p => exact .quiet (exec_pop s p) (State.setStackPair_run ..) (State.setStackPair_mem ..)
  | alu op o => exact .quiet (exec_alu s op o) rfl rfl
  | aluImm op n => exact .quiet (exec_aluImm s op n) rfl rfl
  | jpIf cc nn => exact .of_ite ((exec_jpIf s cc nn).trans (jumpIf_eq ..)) rfl rfl
  | jrIf cc e => exact .of_ite ((exec_jrIf s cc e).trans (jumpIf_eq ..)) rfl rfl
  | retIf cc => exact .of_ite ((exec_retIf s cc).trans (returnIf_eq ..)) rfl rfl
  | bitOp b o => exact .quiet (exec_bitOp s b o) rfl rfl
  | incOp o =>
    cases o with
    | reg r => exact .quiet (exec_incReg s r) (State.setReg_run ..) (State.setReg_mem ..)
    | atHL => exact .stores rfl (exec_incMem s ▸ keepsRunOrRefuses_incMem)
  | decOp o =>
    cases o with
    | reg r => exact .quiet (exec_decReg s r) (State.setReg_run ..) (State.setReg_mem ..)
    | atHL => exact .stores rfl (exec_decMem s ▸ keepsRunOrRefuses_decMem)
  | shift op o =>
    cases o with
    | reg r => exact .quiet (exec_shiftReg s op r) (State.setReg_run ..) (State.setReg_mem ..)
    | atHL => exact .stores (by cases op <;> rfl) (exec_shiftMem s op ▸ keepsRunOrRefuses_shiftMem op)
  | resOp b o =>
    cases o with
    | reg r => exact .quiet (exec_resReg s b r) (State.setReg_run ..) (State.setReg_mem ..)
    | atHL => exact .stores (by cases b <;> rfl) (exec_resMem s b ▸ keepsRunOrRefuses_storeByte ..)
  | setOp b o =>
    cases o with
    | reg r => exact .quiet (exec_setReg s b r) (State.setReg_run ..) (State.setReg_mem ..)
    | atHL => exact .stores (by cases b <;> rfl) (exec_setMem s b ▸ keepsRunOrRefuses_storeByte ..)
  | ldHLReg r => exact .stores (by cases r <;> rfl) (exec_ldHLReg s r ▸ keepsRunOrRefuses_storeByte ..)
  | ld_mBC_A | ld_mDE_A | ld_mHL_n | ld_mnn_A | ldh_mn_A | ld_mC_A =>
    exact .stores rfl (keepsRunOrRefuses_storeByte ..)
  | ld_mHLi_A | ld_mHLd_A => exact .stores rfl (keepsRunOrRefuses_storeAccStep _)
  | ld_mnn_SP nn => exact .stores rfl (keepsRunOrRefuses_storeSP nn)
  | push p => exact .stores (by cases p <;> rfl) (exec_push s p ▸ keepsRunOrRefuses_push16 (after := id) fun _ => rfl)
  | call_nn nn => exact .stores rfl (keepsRunOrRefuses_callTo nn)
  | callIf cc nn => exact .stores (by cases cc <;> rfl) (exec_callIf s cc nn ▸ keepsRunOrRefuses_callIf ..)
  | rst n => exact .stores (by cases n <;> rfl) (exec_rst s n ▸ keepsRunOrRefuses_callTo _)

/-! ## Steps -/

/-- The EI delay leaves the run state. -/
theorem resolveEi_run (was : Bool) (u : State) : (resolveEi was u).run = u.run := by
  obtain ⟨x, y, h⟩ := resolveEi_eq was u
  rw [h]

/-- The bytes of the fetched instruction begin with the byte at `pc`. -/
theorem head_encode_fetchInstr (s : State) : (encode (fetchInstr s).1).head? = some (s.mem.read s.pc) := by
  have hpos := (baseEntry (s.mem.read s.pc)).length_pos
  rw [fetchInstr, encode_decode3, List.head?_take, if_neg (by omega)]
  rfl

/-- A byte fetched as one without an entry is one of the eleven bytes of R86. -/
theorem unassigned_of_fetchInstr {s : State} {op : Byte} (h : (fetchInstr s).1 = .no_entry op) :
    unassignedOpcodes.contains (s.mem.read s.pc) = true := by
  have hwf : (fetchInstr s).1.WellFormed = true := decode3_wellFormed ..
  have hhead := head_encode_fetchInstr s
  rw [h] at hwf hhead
  obtain rfl : op = s.mem.read s.pc := Option.some.inj hhead
  exact hwf

/-- How a step of a running machine can end: running; with a refused store; by HALT or STOP; or at one of the eleven bytes
without an entry, which the record names with its address. -/
theorem step_run_cases {s t : State} (hrun : s.run = .running) (hstep : step s = .next t) :
    t.run = .running ∨ (∃ addr v, t.run = .faulted (.storageWrite addr v)) ∨
      (t.run = .halted ∧ ((fetchInstr s).1 = .halt ∨ ∃ x, (fetchInstr s).1 = .stop x)) ∨
      (t.run = .faulted (.unimplementedOpcode (s.mem.read s.pc) s.pc) ∧ s.mem.read s.pc ∈ unassignedOpcodes) := by
  obtain ⟨u, hu⟩ := exec_eq_next (fetchInstr s).1 (advance (fetchInstr s).2 s)
  have ht : t.run = u.run := by
    rw [step_of_running hrun, hu] at hstep
    obtain rfl := Host.Outcome.next.inj hstep
    exact resolveEi_run ..
  cases exec_effect (fetchInstr s).1 (advance (fetchInstr s).2 s) with
  | quiet hexec hkept _ =>
    obtain rfl := Host.Outcome.next.inj (hexec.symm.trans hu)
    exact .inl (ht.trans (hkept.trans hrun))
  | stores _ hstores =>
    obtain ⟨u', hexec, hend⟩ := hstores
    obtain rfl := Host.Outcome.next.inj (hexec.symm.trans hu)
    rw [ht]
    exact hend.imp (·.trans hrun) .inl
  | halts hi hexec =>
    obtain rfl := Host.Outcome.next.inj (hexec.symm.trans hu)
    exact .inr (.inr (.inl ⟨ht, hi⟩))
  | noEntry hi _ =>
    have hop := unassigned_of_fetchInstr hi
    obtain rfl := Host.Outcome.next.inj ((step_of_unassigned hrun hop).symm.trans hstep)
    exact .inr (.inr (.inr ⟨rfl, List.contains_iff_mem.mp hop⟩))

/-- A byte without an entry has no cost (60_exceptions.md R304). -/
theorem cycleCost_no_entry {op : Byte} (h : op ∈ unassignedOpcodes) (s : State) : cycleCost (.no_entry op) s = none := by
  have hcost : ∀ op ∈ unassignedOpcodes, op ≠ 0xCB ∧ notTakenCost op = none ∧ baseCost op = 0 := by decide
  obtain ⟨hprefix, hnot, hbase⟩ := hcost op h
  have hcostOf : cycleCost (.no_entry op) s = costOf op 0 s.f := rfl
  rw [hcostOf, costOf, if_neg hprefix, hnot, hbase]
  rfl

/-! ## The statements -/

/-- Settles O9: the eleven bytes alone are fetched as `no_entry`, and no other instruction records this fault. -/
theorem unassignedOpcodeFaults : Obligations.UnassignedOpcodeFaults := by
  unfold Obligations.UnassignedOpcodeFaults
  refine ⟨fun s hrun hop => ?_, fun s t op p hrun hstep hfault => ?_, fun s op => ⟨rfl, (cycleCost_no_entry · s), rfl⟩⟩
  · have hstep := step_of_unassigned hrun (List.contains_iff_mem.mpr hop)
    exact ⟨hstep, stepReturn_of_faulting hrun hstep rfl⟩
  · obtain h | ⟨_, _, h⟩ | ⟨h, -⟩ | ⟨h, hop⟩ := step_run_cases hrun hstep
    · simp [hfault] at h
    · simp [hfault] at h
    · simp [hfault] at h
    · obtain ⟨rfl, rfl⟩ : op = s.mem.read s.pc ∧ p = s.pc := by simpa [hfault] using h
      exact ⟨hop, rfl, rfl⟩

/-- Settles O10: the dispatch never fails, so a step fails only where none is taken. -/
theorem noStepIsRefused : Obligations.NoStepIsRefused := by
  unfold Obligations.NoStepIsRefused
  refine ⟨exec_eq_next, fun s => ?_⟩
  cases hrun : s.run with
  | running =>
    obtain ⟨u, hu⟩ := exec_eq_next (fetchInstr s).1 (advance (fetchInstr s).2 s)
    exact .inl ⟨_, (step_of_running hrun).trans (congrArg (finishStep s.eiPending) hu)⟩
  | halted => exact .inl ⟨s, step_of_halted hrun⟩
  | faulted r => exact .inr ⟨r, rfl, step_of_faulted hrun⟩

/-- Settles O11: of the ways a running step can end, only the one of HALT and STOP is Halted. -/
theorem onlyHaltAndStopHalt : Obligations.OnlyHaltAndStopHalt := by
  unfold Obligations.OnlyHaltAndStopHalt
  intro s t hrun hstep hhalted
  obtain h | ⟨_, _, h⟩ | ⟨-, hfetch⟩ | ⟨h, -⟩ := step_run_cases hrun hstep
  · simp [hhalted] at h
  · simp [hhalted] at h
  · exact hfetch
  · simp [hhalted] at h

/-- Settles O15: what does not store leaves memory, and the run state but for a halt or a byte without an entry. -/
theorem onlyStoringInstructionsTouchMemory : Obligations.OnlyStoringInstructionsTouchMemory := by
  unfold Obligations.OnlyStoringInstructionsTouchMemory
  intro i s t hi ht
  cases exec_effect i s with
  | quiet hexec hrun hmem =>
    obtain rfl := Host.Outcome.next.inj (hexec.symm.trans ht)
    exact ⟨hmem, fun _ _ => hrun.symm.trans⟩
  | stores hstores _ => simp [hi] at hstores
  | halts _ hexec | noEntry _ hexec =>
    obtain rfl := Host.Outcome.next.inj (hexec.symm.trans ht)
    exact ⟨rfl, fun _ _ h => by simp at h⟩

end Sys2Proof.Machine
end
